-- ==== Sys2Proof/Word.lean ====
section
/-! DEFINITION. The words of the machine: a byte of the data path and a 16-bit address
(00_scope.md R4, R5). -/

namespace Sys2Proof

/-- One bus access, one 8-bit register (00_scope.md R4). -/
abbrev Byte := BitVec 8

/-- A 16-bit address, and the 16-bit registers SP and PC (00_scope.md R4). Addition wraps modulo 2^16 (D11). -/
abbrev Addr := BitVec 16

/-- A 2-bit colour index or shade (10_state.md R42, R43). -/
abbrev Shade := BitVec 2

end Sys2Proof
end

