-- ==== Sys2Proof/Machine/Bits.lean ====
section
/-! DEFINITION. Bit fields, sign extension and byte order (00_scope.md R5, R6, R7). -/

namespace Sys2Proof.Machine

/-- `v[15:8]` (00_scope.md R5). -/
def hi (v : Addr) : Byte := v.extractLsb' 8 8

/-- `v[7:0]` (00_scope.md R5). -/
def lo (v : Addr) : Byte := v.extractLsb' 0 8

/-- `{h, l}`, the first-named byte high (00_scope.md R5, 10_state.md R11). -/
def join (h l : Byte) : Addr := h ++ l

/-- `sext_16(b)` (00_scope.md R5). -/
def sext16 (b : Byte) : Addr := b.signExtend 16

/-- `v[i]` of a byte (00_scope.md R5). -/
def bit (v : Byte) (i : Nat) : Bool := v.getLsbD i

/-- The address `0xFF00 + n` of the high page (30_encoding.md R93). -/
def highPage (n : Byte) : Addr := 0xFF00 + n.setWidth 16

/-- Select by a 3-bit field: the eight columns of a table in the order of their index (30_encoding.md R92). -/
def pick8 {α : Type} (x0 x1 x2 x3 x4 x5 x6 x7 : α) (i : BitVec 3) : α :=
  match i.toNat with
  | 0 => x0
  | 1 => x1
  | 2 => x2
  | 3 => x3
  | 4 => x4
  | 5 => x5
  | 6 => x6
  | _ => x7

end Sys2Proof.Machine
end

