-- ==== Sys2Proof/Syntax.lean ====
section
/-! DEFINITION. The syntax of the SM83 instruction set: the operand kinds of 30_encoding.md R92, and one constructor of
`Instr` for each row of spec/opcode_table.json. -/

namespace Sys2Proof

/-- The seven registers of the table `R8` (30_encoding.md R92); index 6 of that table is memory, see `Loc`. -/
inductive R8 where
  | B | C | D | E | H | L | A
deriving DecidableEq, Repr

/-- An entry of the table `R8`: a register, or the memory byte at HL (00_scope.md R6). -/
inductive Loc where
  | reg (r : R8)
  | memHl
deriving DecidableEq, Repr

/-- The second operand of an 8-bit ALU instruction: the three forms of 42_alu_8bit.md R171. -/
inductive Source where
  | loc (l : Loc)
  | imm (v : Byte)
deriving DecidableEq, Repr

/-- The table `R16` (30_encoding.md R92). -/
inductive R16 where
  | BC | DE | HL | SP
deriving DecidableEq, Repr

/-- The table `R16STK` (30_encoding.md R92). -/
inductive R16Stk where
  | BC | DE | HL | AF
deriving DecidableEq, Repr

/-- The table `CC` (30_encoding.md R92). -/
inductive Cond where
  | NZ | Z | NC | C
deriving DecidableEq, Repr

/-- The eight accumulator operations (30_encoding.md R92, column "ALU op"). -/
inductive AluOp where
  | add | adc | sub | sbc | and | xor | or | cp
deriving DecidableEq, Repr

/-- The eight operations of CB class 0 (30_encoding.md R92, column "CB class 0 sub-op"). -/
inductive ShiftOp where
  | rlc | rrc | rl | rr | sla | sra | swap | srl
deriving DecidableEq, Repr

/-- The instructions, one constructor per row of spec/opcode_table.json, those with an operand
first (Lean's runtime bounds the index of a constructor that has fields). Operands are the immediates and the free bit
index only; a field the row fixes is part of the constructor's name. -/
inductive Instr where
  | ldBcD16 (v : Addr) -- LD BC,d16
  | ldBD8 (v : Byte) -- LD B,d8
  | ldMemA16Sp (a : Addr) -- LD (a16),SP
  | ldCD8 (v : Byte) -- LD C,d8
  | stop (pad : Byte) -- STOP
  | ldDeD16 (v : Addr) -- LD DE,d16
  | ldDD8 (v : Byte) -- LD D,d8
  | jrE8 (e : Byte) -- JR e8
  | ldED8 (v : Byte) -- LD E,d8
  | jrNzE8 (e : Byte) -- JR NZ,e8
  | ldHlD16 (v : Addr) -- LD HL,d16
  | ldHD8 (v : Byte) -- LD H,d8
  | jrZE8 (e : Byte) -- JR Z,e8
  | ldLD8 (v : Byte) -- LD L,d8
  | jrNcE8 (e : Byte) -- JR NC,e8
  | ldSpD16 (v : Addr) -- LD SP,d16
  | ldMemHlD8 (v : Byte) -- LD (HL),d8
  | jrCE8 (e : Byte) -- JR C,e8
  | ldAD8 (v : Byte) -- LD A,d8
  | jpNzA16 (a : Addr) -- JP NZ,a16
  | jpA16 (a : Addr) -- JP a16
  | callNzA16 (a : Addr) -- CALL NZ,a16
  | addAD8 (v : Byte) -- ADD A,d8
  | jpZA16 (a : Addr) -- JP Z,a16
  | prefixCb (cb : Byte) -- PREFIX CB
  | callZA16 (a : Addr) -- CALL Z,a16
  | callA16 (a : Addr) -- CALL a16
  | adcAD8 (v : Byte) -- ADC A,d8
  | jpNcA16 (a : Addr) -- JP NC,a16
  | callNcA16 (a : Addr) -- CALL NC,a16
  | subD8 (v : Byte) -- SUB d8
  | jpCA16 (a : Addr) -- JP C,a16
  | callCA16 (a : Addr) -- CALL C,a16
  | sbcAD8 (v : Byte) -- SBC A,d8
  | ldhMemA8A (n : Byte) -- LDH (a8),A
  | andD8 (v : Byte) -- AND d8
  | addSpE8 (e : Byte) -- ADD SP,e8
  | ldMemA16A (a : Addr) -- LD (a16),A
  | xorD8 (v : Byte) -- XOR d8
  | ldhAMemA8 (n : Byte) -- LDH A,(a8)
  | orD8 (v : Byte) -- OR d8
  | ldHlSpE8 (e : Byte) -- LD HL,SP+e8
  | ldAMemA16 (a : Addr) -- LD A,(a16)
  | cpD8 (v : Byte) -- CP d8
  | bitB (b : BitVec 3) -- BIT b,B
  | bitC (b : BitVec 3) -- BIT b,C
  | bitD (b : BitVec 3) -- BIT b,D
  | bitE (b : BitVec 3) -- BIT b,E
  | bitH (b : BitVec 3) -- BIT b,H
  | bitL (b : BitVec 3) -- BIT b,L
  | bitMemHl (b : BitVec 3) -- BIT b,(HL)
  | bitA (b : BitVec 3) -- BIT b,A
  | resB (b : BitVec 3) -- RES b,B
  | resC (b : BitVec 3) -- RES b,C
  | resD (b : BitVec 3) -- RES b,D
  | resE (b : BitVec 3) -- RES b,E
  | resH (b : BitVec 3) -- RES b,H
  | resL (b : BitVec 3) -- RES b,L
  | resMemHl (b : BitVec 3) -- RES b,(HL)
  | resA (b : BitVec 3) -- RES b,A
  | setB (b : BitVec 3) -- SET b,B
  | setC (b : BitVec 3) -- SET b,C
  | setD (b : BitVec 3) -- SET b,D
  | setE (b : BitVec 3) -- SET b,E
  | setH (b : BitVec 3) -- SET b,H
  | setL (b : BitVec 3) -- SET b,L
  | setMemHl (b : BitVec 3) -- SET b,(HL)
  | setA (b : BitVec 3) -- SET b,A
  | nop -- NOP
  | ldMemBcA -- LD (BC),A
  | incBc -- INC BC
  | incB -- INC B
  | decB -- DEC B
  | rlca -- RLCA
  | addHlBc -- ADD HL,BC
  | ldAMemBc -- LD A,(BC)
  | decBc -- DEC BC
  | incC -- INC C
  | decC -- DEC C
  | rrca -- RRCA
  | ldMemDeA -- LD (DE),A
  | incDe -- INC DE
  | incD -- INC D
  | decD -- DEC D
  | rla -- RLA
  | addHlDe -- ADD HL,DE
  | ldAMemDe -- LD A,(DE)
  | decDe -- DEC DE
  | incE -- INC E
  | decE -- DEC E
  | rra -- RRA
  | ldMemHlIncA -- LD (HL+),A
  | incHl -- INC HL
  | incH -- INC H
  | decH -- DEC H
  | daa -- DAA
  | addHlHl -- ADD HL,HL
  | ldAMemHlInc -- LD A,(HL+)
  | decHl -- DEC HL
  | incL -- INC L
  | decL -- DEC L
  | cpl -- CPL
  | ldMemHlDecA -- LD (HL-),A
  | incSp -- INC SP
  | incMemHl -- INC (HL)
  | decMemHl -- DEC (HL)
  | scf -- SCF
  | addHlSp -- ADD HL,SP
  | ldAMemHlDec -- LD A,(HL-)
  | decSp -- DEC SP
  | incA -- INC A
  | decA -- DEC A
  | ccf -- CCF
  | ldBB -- LD B,B
  | ldBC -- LD B,C
  | ldBD -- LD B,D
  | ldBE -- LD B,E
  | ldBH -- LD B,H
  | ldBL -- LD B,L
  | ldBMemHl -- LD B,(HL)
  | ldBA -- LD B,A
  | ldCB -- LD C,B
  | ldCC -- LD C,C
  | ldCD -- LD C,D
  | ldCE -- LD C,E
  | ldCH -- LD C,H
  | ldCL -- LD C,L
  | ldCMemHl -- LD C,(HL)
  | ldCA -- LD C,A
  | ldDB -- LD D,B
  | ldDC -- LD D,C
  | ldDD -- LD D,D
  | ldDE -- LD D,E
  | ldDH -- LD D,H
  | ldDL -- LD D,L
  | ldDMemHl -- LD D,(HL)
  | ldDA -- LD D,A
  | ldEB -- LD E,B
  | ldEC -- LD E,C
  | ldED -- LD E,D
  | ldEE -- LD E,E
  | ldEH -- LD E,H
  | ldEL -- LD E,L
  | ldEMemHl -- LD E,(HL)
  | ldEA -- LD E,A
  | ldHB -- LD H,B
  | ldHC -- LD H,C
  | ldHD -- LD H,D
  | ldHE -- LD H,E
  | ldHH -- LD H,H
  | ldHL -- LD H,L
  | ldHMemHl -- LD H,(HL)
  | ldHA -- LD H,A
  | ldLB -- LD L,B
  | ldLC -- LD L,C
  | ldLD -- LD L,D
  | ldLE -- LD L,E
  | ldLH -- LD L,H
  | ldLL -- LD L,L
  | ldLMemHl -- LD L,(HL)
  | ldLA -- LD L,A
  | ldMemHlB -- LD (HL),B
  | ldMemHlC -- LD (HL),C
  | ldMemHlD -- LD (HL),D
  | ldMemHlE -- LD (HL),E
  | ldMemHlH -- LD (HL),H
  | ldMemHlL -- LD (HL),L
  | halt -- HALT
  | ldMemHlA -- LD (HL),A
  | ldAB -- LD A,B
  | ldAC -- LD A,C
  | ldAD -- LD A,D
  | ldAE -- LD A,E
  | ldAH -- LD A,H
  | ldAL -- LD A,L
  | ldAMemHl -- LD A,(HL)
  | ldAA -- LD A,A
  | addAB -- ADD A,B
  | addAC -- ADD A,C
  | addAD -- ADD A,D
  | addAE -- ADD A,E
  | addAH -- ADD A,H
  | addAL -- ADD A,L
  | addAMemHl -- ADD A,(HL)
  | addAA -- ADD A,A
  | adcAB -- ADC A,B
  | adcAC -- ADC A,C
  | adcAD -- ADC A,D
  | adcAE -- ADC A,E
  | adcAH -- ADC A,H
  | adcAL -- ADC A,L
  | adcAMemHl -- ADC A,(HL)
  | adcAA -- ADC A,A
  | subB -- SUB B
  | subC -- SUB C
  | subD -- SUB D
  | subE -- SUB E
  | subH -- SUB H
  | subL -- SUB L
  | subMemHl -- SUB (HL)
  | subA -- SUB A
  | sbcAB -- SBC A,B
  | sbcAC -- SBC A,C
  | sbcAD -- SBC A,D
  | sbcAE -- SBC A,E
  | sbcAH -- SBC A,H
  | sbcAL -- SBC A,L
  | sbcAMemHl -- SBC A,(HL)
  | sbcAA -- SBC A,A
  | andB -- AND B
  | andC -- AND C
  | andD -- AND D
  | andE -- AND E
  | andH -- AND H
  | andL -- AND L
  | andMemHl -- AND (HL)
  | andA -- AND A
  | xorB -- XOR B
  | xorC -- XOR C
  | xorD -- XOR D
  | xorE -- XOR E
  | xorH -- XOR H
  | xorL -- XOR L
  | xorMemHl -- XOR (HL)
  | xorA -- XOR A
  | orB -- OR B
  | orC -- OR C
  | orD -- OR D
  | orE -- OR E
  | orH -- OR H
  | orL -- OR L
  | orMemHl -- OR (HL)
  | orA -- OR A
  | cpB -- CP B
  | cpC -- CP C
  | cpD -- CP D
  | cpE -- CP E
  | cpH -- CP H
  | cpL -- CP L
  | cpMemHl -- CP (HL)
  | cpA -- CP A
  | retNz -- RET NZ
  | popBc -- POP BC
  | pushBc -- PUSH BC
  | rst00 -- RST 00
  | retZ -- RET Z
  | ret -- RET
  | rst08 -- RST 08
  | retNc -- RET NC
  | popDe -- POP DE
  | illegalD3 -- ILLEGAL_D3
  | pushDe -- PUSH DE
  | rst10 -- RST 10
  | retC -- RET C
  | reti -- RETI
  | illegalDB -- ILLEGAL_DB
  | illegalDD -- ILLEGAL_DD
  | rst18 -- RST 18
  | popHl -- POP HL
  | ldMemCA -- LD (C),A
  | illegalE3 -- ILLEGAL_E3
  | illegalE4 -- ILLEGAL_E4
  | pushHl -- PUSH HL
  | rst20 -- RST 20
  | jpHl -- JP HL
  | illegalEB -- ILLEGAL_EB
  | illegalEC -- ILLEGAL_EC
  | illegalED -- ILLEGAL_ED
  | rst28 -- RST 28
  | popAf -- POP AF
  | ldAMemC -- LD A,(C)
  | di -- DI
  | illegalF4 -- ILLEGAL_F4
  | pushAf -- PUSH AF
  | rst30 -- RST 30
  | ldSpHl -- LD SP,HL
  | ei -- EI
  | illegalFC -- ILLEGAL_FC
  | illegalFD -- ILLEGAL_FD
  | rst38 -- RST 38
  | rlcB -- RLC B
  | rlcC -- RLC C
  | rlcD -- RLC D
  | rlcE -- RLC E
  | rlcH -- RLC H
  | rlcL -- RLC L
  | rlcMemHl -- RLC (HL)
  | rlcA -- RLC A
  | rrcB -- RRC B
  | rrcC -- RRC C
  | rrcD -- RRC D
  | rrcE -- RRC E
  | rrcH -- RRC H
  | rrcL -- RRC L
  | rrcMemHl -- RRC (HL)
  | rrcA -- RRC A
  | rlB -- RL B
  | rlC -- RL C
  | rlD -- RL D
  | rlE -- RL E
  | rlH -- RL H
  | rlL -- RL L
  | rlMemHl -- RL (HL)
  | rlA -- RL A
  | rrB -- RR B
  | rrC -- RR C
  | rrD -- RR D
  | rrE -- RR E
  | rrH -- RR H
  | rrL -- RR L
  | rrMemHl -- RR (HL)
  | rrA -- RR A
  | slaB -- SLA B
  | slaC -- SLA C
  | slaD -- SLA D
  | slaE -- SLA E
  | slaH -- SLA H
  | slaL -- SLA L
  | slaMemHl -- SLA (HL)
  | slaA -- SLA A
  | sraB -- SRA B
  | sraC -- SRA C
  | sraD -- SRA D
  | sraE -- SRA E
  | sraH -- SRA H
  | sraL -- SRA L
  | sraMemHl -- SRA (HL)
  | sraA -- SRA A
  | swapB -- SWAP B
  | swapC -- SWAP C
  | swapD -- SWAP D
  | swapE -- SWAP E
  | swapH -- SWAP H
  | swapL -- SWAP L
  | swapMemHl -- SWAP (HL)
  | swapA -- SWAP A
  | srlB -- SRL B
  | srlC -- SRL C
  | srlD -- SRL D
  | srlE -- SRL E
  | srlH -- SRL H
  | srlL -- SRL L
  | srlMemHl -- SRL (HL)
  | srlA -- SRL A
deriving DecidableEq, Repr

end Sys2Proof
end

