-- ==== Sys2Proof/WellFormed.lean ====
section
/-! DEFINITION. Well-formed instructions. Operands are typed at the width of their encoding field, so the one check left
is that the bare prefix byte is no instruction (47_system.md R266): its row of the opcode table selects the secondary
table, and the pair of bytes is the CB-prefixed instruction. -/

namespace Sys2Proof

/-- The instruction is one the machine can decode. -/
def Instr.wf : Instr → Bool
  | .nop => true
  | .ldBcD16 _ => true
  | .ldMemBcA => true
  | .incBc => true
  | .incB => true
  | .decB => true
  | .ldBD8 _ => true
  | .rlca => true
  | .ldMemA16Sp _ => true
  | .addHlBc => true
  | .ldAMemBc => true
  | .decBc => true
  | .incC => true
  | .decC => true
  | .ldCD8 _ => true
  | .rrca => true
  | .stop _ => true
  | .ldDeD16 _ => true
  | .ldMemDeA => true
  | .incDe => true
  | .incD => true
  | .decD => true
  | .ldDD8 _ => true
  | .rla => true
  | .jrE8 _ => true
  | .addHlDe => true
  | .ldAMemDe => true
  | .decDe => true
  | .incE => true
  | .decE => true
  | .ldED8 _ => true
  | .rra => true
  | .jrNzE8 _ => true
  | .ldHlD16 _ => true
  | .ldMemHlIncA => true
  | .incHl => true
  | .incH => true
  | .decH => true
  | .ldHD8 _ => true
  | .daa => true
  | .jrZE8 _ => true
  | .addHlHl => true
  | .ldAMemHlInc => true
  | .decHl => true
  | .incL => true
  | .decL => true
  | .ldLD8 _ => true
  | .cpl => true
  | .jrNcE8 _ => true
  | .ldSpD16 _ => true
  | .ldMemHlDecA => true
  | .incSp => true
  | .incMemHl => true
  | .decMemHl => true
  | .ldMemHlD8 _ => true
  | .scf => true
  | .jrCE8 _ => true
  | .addHlSp => true
  | .ldAMemHlDec => true
  | .decSp => true
  | .incA => true
  | .decA => true
  | .ldAD8 _ => true
  | .ccf => true
  | .ldBB => true
  | .ldBC => true
  | .ldBD => true
  | .ldBE => true
  | .ldBH => true
  | .ldBL => true
  | .ldBMemHl => true
  | .ldBA => true
  | .ldCB => true
  | .ldCC => true
  | .ldCD => true
  | .ldCE => true
  | .ldCH => true
  | .ldCL => true
  | .ldCMemHl => true
  | .ldCA => true
  | .ldDB => true
  | .ldDC => true
  | .ldDD => true
  | .ldDE => true
  | .ldDH => true
  | .ldDL => true
  | .ldDMemHl => true
  | .ldDA => true
  | .ldEB => true
  | .ldEC => true
  | .ldED => true
  | .ldEE => true
  | .ldEH => true
  | .ldEL => true
  | .ldEMemHl => true
  | .ldEA => true
  | .ldHB => true
  | .ldHC => true
  | .ldHD => true
  | .ldHE => true
  | .ldHH => true
  | .ldHL => true
  | .ldHMemHl => true
  | .ldHA => true
  | .ldLB => true
  | .ldLC => true
  | .ldLD => true
  | .ldLE => true
  | .ldLH => true
  | .ldLL => true
  | .ldLMemHl => true
  | .ldLA => true
  | .ldMemHlB => true
  | .ldMemHlC => true
  | .ldMemHlD => true
  | .ldMemHlE => true
  | .ldMemHlH => true
  | .ldMemHlL => true
  | .halt => true
  | .ldMemHlA => true
  | .ldAB => true
  | .ldAC => true
  | .ldAD => true
  | .ldAE => true
  | .ldAH => true
  | .ldAL => true
  | .ldAMemHl => true
  | .ldAA => true
  | .addAB => true
  | .addAC => true
  | .addAD => true
  | .addAE => true
  | .addAH => true
  | .addAL => true
  | .addAMemHl => true
  | .addAA => true
  | .adcAB => true
  | .adcAC => true
  | .adcAD => true
  | .adcAE => true
  | .adcAH => true
  | .adcAL => true
  | .adcAMemHl => true
  | .adcAA => true
  | .subB => true
  | .subC => true
  | .subD => true
  | .subE => true
  | .subH => true
  | .subL => true
  | .subMemHl => true
  | .subA => true
  | .sbcAB => true
  | .sbcAC => true
  | .sbcAD => true
  | .sbcAE => true
  | .sbcAH => true
  | .sbcAL => true
  | .sbcAMemHl => true
  | .sbcAA => true
  | .andB => true
  | .andC => true
  | .andD => true
  | .andE => true
  | .andH => true
  | .andL => true
  | .andMemHl => true
  | .andA => true
  | .xorB => true
  | .xorC => true
  | .xorD => true
  | .xorE => true
  | .xorH => true
  | .xorL => true
  | .xorMemHl => true
  | .xorA => true
  | .orB => true
  | .orC => true
  | .orD => true
  | .orE => true
  | .orH => true
  | .orL => true
  | .orMemHl => true
  | .orA => true
  | .cpB => true
  | .cpC => true
  | .cpD => true
  | .cpE => true
  | .cpH => true
  | .cpL => true
  | .cpMemHl => true
  | .cpA => true
  | .retNz => true
  | .popBc => true
  | .jpNzA16 _ => true
  | .jpA16 _ => true
  | .callNzA16 _ => true
  | .pushBc => true
  | .addAD8 _ => true
  | .rst00 => true
  | .retZ => true
  | .ret => true
  | .jpZA16 _ => true
  | .prefixCb _ => false
  | .callZA16 _ => true
  | .callA16 _ => true
  | .adcAD8 _ => true
  | .rst08 => true
  | .retNc => true
  | .popDe => true
  | .jpNcA16 _ => true
  | .illegalD3 => true
  | .callNcA16 _ => true
  | .pushDe => true
  | .subD8 _ => true
  | .rst10 => true
  | .retC => true
  | .reti => true
  | .jpCA16 _ => true
  | .illegalDB => true
  | .callCA16 _ => true
  | .illegalDD => true
  | .sbcAD8 _ => true
  | .rst18 => true
  | .ldhMemA8A _ => true
  | .popHl => true
  | .ldMemCA => true
  | .illegalE3 => true
  | .illegalE4 => true
  | .pushHl => true
  | .andD8 _ => true
  | .rst20 => true
  | .addSpE8 _ => true
  | .jpHl => true
  | .ldMemA16A _ => true
  | .illegalEB => true
  | .illegalEC => true
  | .illegalED => true
  | .xorD8 _ => true
  | .rst28 => true
  | .ldhAMemA8 _ => true
  | .popAf => true
  | .ldAMemC => true
  | .di => true
  | .illegalF4 => true
  | .pushAf => true
  | .orD8 _ => true
  | .rst30 => true
  | .ldHlSpE8 _ => true
  | .ldSpHl => true
  | .ldAMemA16 _ => true
  | .ei => true
  | .illegalFC => true
  | .illegalFD => true
  | .cpD8 _ => true
  | .rst38 => true
  | .rlcB => true
  | .rlcC => true
  | .rlcD => true
  | .rlcE => true
  | .rlcH => true
  | .rlcL => true
  | .rlcMemHl => true
  | .rlcA => true
  | .rrcB => true
  | .rrcC => true
  | .rrcD => true
  | .rrcE => true
  | .rrcH => true
  | .rrcL => true
  | .rrcMemHl => true
  | .rrcA => true
  | .rlB => true
  | .rlC => true
  | .rlD => true
  | .rlE => true
  | .rlH => true
  | .rlL => true
  | .rlMemHl => true
  | .rlA => true
  | .rrB => true
  | .rrC => true
  | .rrD => true
  | .rrE => true
  | .rrH => true
  | .rrL => true
  | .rrMemHl => true
  | .rrA => true
  | .slaB => true
  | .slaC => true
  | .slaD => true
  | .slaE => true
  | .slaH => true
  | .slaL => true
  | .slaMemHl => true
  | .slaA => true
  | .sraB => true
  | .sraC => true
  | .sraD => true
  | .sraE => true
  | .sraH => true
  | .sraL => true
  | .sraMemHl => true
  | .sraA => true
  | .swapB => true
  | .swapC => true
  | .swapD => true
  | .swapE => true
  | .swapH => true
  | .swapL => true
  | .swapMemHl => true
  | .swapA => true
  | .srlB => true
  | .srlC => true
  | .srlD => true
  | .srlE => true
  | .srlH => true
  | .srlL => true
  | .srlMemHl => true
  | .srlA => true
  | .bitB _ => true
  | .bitC _ => true
  | .bitD _ => true
  | .bitE _ => true
  | .bitH _ => true
  | .bitL _ => true
  | .bitMemHl _ => true
  | .bitA _ => true
  | .resB _ => true
  | .resC _ => true
  | .resD _ => true
  | .resE _ => true
  | .resH _ => true
  | .resL _ => true
  | .resMemHl _ => true
  | .resA _ => true
  | .setB _ => true
  | .setC _ => true
  | .setD _ => true
  | .setE _ => true
  | .setH _ => true
  | .setL _ => true
  | .setMemHl _ => true
  | .setA _ => true

end Sys2Proof
end

