-- ==== Sys2Proof/Decode.lean ====
section
/-! DEFINITION. Decoding (30_encoding.md R90 to R98, R101), total on any bytes, and the encoder written from the same tables. -/

namespace Sys2Proof

open Sys2Proof.Machine (hi lo join pick8)

/-- Why bytes are no instruction: only ever because they end too early. Every byte value has a meaning (30_encoding.md R101). -/
inductive DecodeError where
  /-- There is no byte at all. -/
  | noOpcode
  /-- The opcode's immediate, or the byte after the prefix 0xCB, is missing. -/
  | missingOperand
deriving DecidableEq, Repr

/-- What follows a first opcode byte (the formats of 30_encoding.md R91). -/
inductive Shape where
  /-- OP: no further byte. -/
  | op (i : Instr)
  /-- OP_D8, OP_A8, OP_E8, OP_PAD: one byte. -/
  | imm8 (f : Byte → Instr)
  /-- OP_D16, OP_A16: two bytes, the low one first. -/
  | imm16 (f : Addr → Instr)
  /-- CB: the byte that follows selects from the secondary table. -/
  | secondary

/-- The primary opcode map (30_encoding.md R94, the grid): the row is `op[7:3]`, the column `op[2:0]`. -/
def primaryMap (op : Byte) : Shape :=
  let column := op.extractLsb' 0 3
  match (op.extractLsb' 3 5).toNat with
  | 0 => pick8 (.op .nop) (.imm16 .ldBcD16) (.op .ldMemBcA) (.op .incBc) (.op .incB) (.op .decB) (.imm8 .ldBD8) (.op .rlca) column
  | 1 => pick8 (.imm16 .ldMemA16Sp) (.op .addHlBc) (.op .ldAMemBc) (.op .decBc) (.op .incC) (.op .decC) (.imm8 .ldCD8) (.op .rrca) column
  | 2 => pick8 (.imm8 .stop) (.imm16 .ldDeD16) (.op .ldMemDeA) (.op .incDe) (.op .incD) (.op .decD) (.imm8 .ldDD8) (.op .rla) column
  | 3 => pick8 (.imm8 .jrE8) (.op .addHlDe) (.op .ldAMemDe) (.op .decDe) (.op .incE) (.op .decE) (.imm8 .ldED8) (.op .rra) column
  | 4 => pick8 (.imm8 .jrNzE8) (.imm16 .ldHlD16) (.op .ldMemHlIncA) (.op .incHl) (.op .incH) (.op .decH) (.imm8 .ldHD8) (.op .daa) column
  | 5 => pick8 (.imm8 .jrZE8) (.op .addHlHl) (.op .ldAMemHlInc) (.op .decHl) (.op .incL) (.op .decL) (.imm8 .ldLD8) (.op .cpl) column
  | 6 => pick8 (.imm8 .jrNcE8) (.imm16 .ldSpD16) (.op .ldMemHlDecA) (.op .incSp) (.op .incMemHl) (.op .decMemHl) (.imm8 .ldMemHlD8) (.op .scf) column
  | 7 => pick8 (.imm8 .jrCE8) (.op .addHlSp) (.op .ldAMemHlDec) (.op .decSp) (.op .incA) (.op .decA) (.imm8 .ldAD8) (.op .ccf) column
  | 8 => pick8 (.op .ldBB) (.op .ldBC) (.op .ldBD) (.op .ldBE) (.op .ldBH) (.op .ldBL) (.op .ldBMemHl) (.op .ldBA) column
  | 9 => pick8 (.op .ldCB) (.op .ldCC) (.op .ldCD) (.op .ldCE) (.op .ldCH) (.op .ldCL) (.op .ldCMemHl) (.op .ldCA) column
  | 10 => pick8 (.op .ldDB) (.op .ldDC) (.op .ldDD) (.op .ldDE) (.op .ldDH) (.op .ldDL) (.op .ldDMemHl) (.op .ldDA) column
  | 11 => pick8 (.op .ldEB) (.op .ldEC) (.op .ldED) (.op .ldEE) (.op .ldEH) (.op .ldEL) (.op .ldEMemHl) (.op .ldEA) column
  | 12 => pick8 (.op .ldHB) (.op .ldHC) (.op .ldHD) (.op .ldHE) (.op .ldHH) (.op .ldHL) (.op .ldHMemHl) (.op .ldHA) column
  | 13 => pick8 (.op .ldLB) (.op .ldLC) (.op .ldLD) (.op .ldLE) (.op .ldLH) (.op .ldLL) (.op .ldLMemHl) (.op .ldLA) column
  | 14 => pick8 (.op .ldMemHlB) (.op .ldMemHlC) (.op .ldMemHlD) (.op .ldMemHlE) (.op .ldMemHlH) (.op .ldMemHlL) (.op .halt) (.op .ldMemHlA) column
  | 15 => pick8 (.op .ldAB) (.op .ldAC) (.op .ldAD) (.op .ldAE) (.op .ldAH) (.op .ldAL) (.op .ldAMemHl) (.op .ldAA) column
  | 16 => pick8 (.op .addAB) (.op .addAC) (.op .addAD) (.op .addAE) (.op .addAH) (.op .addAL) (.op .addAMemHl) (.op .addAA) column
  | 17 => pick8 (.op .adcAB) (.op .adcAC) (.op .adcAD) (.op .adcAE) (.op .adcAH) (.op .adcAL) (.op .adcAMemHl) (.op .adcAA) column
  | 18 => pick8 (.op .subB) (.op .subC) (.op .subD) (.op .subE) (.op .subH) (.op .subL) (.op .subMemHl) (.op .subA) column
  | 19 => pick8 (.op .sbcAB) (.op .sbcAC) (.op .sbcAD) (.op .sbcAE) (.op .sbcAH) (.op .sbcAL) (.op .sbcAMemHl) (.op .sbcAA) column
  | 20 => pick8 (.op .andB) (.op .andC) (.op .andD) (.op .andE) (.op .andH) (.op .andL) (.op .andMemHl) (.op .andA) column
  | 21 => pick8 (.op .xorB) (.op .xorC) (.op .xorD) (.op .xorE) (.op .xorH) (.op .xorL) (.op .xorMemHl) (.op .xorA) column
  | 22 => pick8 (.op .orB) (.op .orC) (.op .orD) (.op .orE) (.op .orH) (.op .orL) (.op .orMemHl) (.op .orA) column
  | 23 => pick8 (.op .cpB) (.op .cpC) (.op .cpD) (.op .cpE) (.op .cpH) (.op .cpL) (.op .cpMemHl) (.op .cpA) column
  | 24 => pick8 (.op .retNz) (.op .popBc) (.imm16 .jpNzA16) (.imm16 .jpA16) (.imm16 .callNzA16) (.op .pushBc) (.imm8 .addAD8) (.op .rst00) column
  | 25 => pick8 (.op .retZ) (.op .ret) (.imm16 .jpZA16) (.secondary) (.imm16 .callZA16) (.imm16 .callA16) (.imm8 .adcAD8) (.op .rst08) column
  | 26 => pick8 (.op .retNc) (.op .popDe) (.imm16 .jpNcA16) (.op .illegalD3) (.imm16 .callNcA16) (.op .pushDe) (.imm8 .subD8) (.op .rst10) column
  | 27 => pick8 (.op .retC) (.op .reti) (.imm16 .jpCA16) (.op .illegalDB) (.imm16 .callCA16) (.op .illegalDD) (.imm8 .sbcAD8) (.op .rst18) column
  | 28 => pick8 (.imm8 .ldhMemA8A) (.op .popHl) (.op .ldMemCA) (.op .illegalE3) (.op .illegalE4) (.op .pushHl) (.imm8 .andD8) (.op .rst20) column
  | 29 => pick8 (.imm8 .addSpE8) (.op .jpHl) (.imm16 .ldMemA16A) (.op .illegalEB) (.op .illegalEC) (.op .illegalED) (.imm8 .xorD8) (.op .rst28) column
  | 30 => pick8 (.imm8 .ldhAMemA8) (.op .popAf) (.op .ldAMemC) (.op .di) (.op .illegalF4) (.op .pushAf) (.imm8 .orD8) (.op .rst30) column
  | _ => pick8 (.imm8 .ldHlSpE8) (.op .ldSpHl) (.imm16 .ldAMemA16) (.op .ei) (.op .illegalFC) (.op .illegalFD) (.imm8 .cpD8) (.op .rst38) column

/-- The secondary map, reached through 0xCB (30_encoding.md R95, R96): class `cb[7:6]`, bit index or sub-operation
`cb[5:3]`, operand `cb[2:0]`. -/
def secondaryMap (cb : Byte) : Instr :=
  let operand := cb.extractLsb' 0 3
  let b := cb.extractLsb' 3 3
  match (cb.extractLsb' 6 2).toNat with
  | 0 =>
    pick8
      (pick8 .rlcB .rlcC .rlcD .rlcE .rlcH .rlcL .rlcMemHl .rlcA operand)
      (pick8 .rrcB .rrcC .rrcD .rrcE .rrcH .rrcL .rrcMemHl .rrcA operand)
      (pick8 .rlB .rlC .rlD .rlE .rlH .rlL .rlMemHl .rlA operand)
      (pick8 .rrB .rrC .rrD .rrE .rrH .rrL .rrMemHl .rrA operand)
      (pick8 .slaB .slaC .slaD .slaE .slaH .slaL .slaMemHl .slaA operand)
      (pick8 .sraB .sraC .sraD .sraE .sraH .sraL .sraMemHl .sraA operand)
      (pick8 .swapB .swapC .swapD .swapE .swapH .swapL .swapMemHl .swapA operand)
      (pick8 .srlB .srlC .srlD .srlE .srlH .srlL .srlMemHl .srlA operand)
      b
  | 1 => pick8 (.bitB b) (.bitC b) (.bitD b) (.bitE b) (.bitH b) (.bitL b) (.bitMemHl b) (.bitA b) operand
  | 2 => pick8 (.resB b) (.resC b) (.resD b) (.resE b) (.resH b) (.resL b) (.resMemHl b) (.resA b) operand
  | _ => pick8 (.setB b) (.setC b) (.setD b) (.setE b) (.setH b) (.setL b) (.setMemHl b) (.setA b) operand

/-- Decode the instruction at the head of the bytes; answers it and the bytes after it. Depends on the bytes alone
(30_encoding.md R101). -/
def decode : List Byte → Except DecodeError (Instr × List Byte)
  | [] => .error .noOpcode
  | op :: rest =>
    match primaryMap op with
    | .op i => .ok (i, rest)
    | .imm8 f =>
      match rest with
      | v :: rest' => .ok (f v, rest')
      | [] => .error .missingOperand
    | .imm16 f =>
      match rest with
      | l :: h :: rest' => .ok (f (join h l), rest')
      | _ => .error .missingOperand
    | .secondary =>
      match rest with
      | cb :: rest' => .ok (secondaryMap cb, rest')
      | [] => .error .missingOperand

/-- The bytes of an instruction bit `b` of which is free: the second byte of a BIT, RES or SET (30_encoding.md R96). -/
def withBitIndex (base : Byte) (b : BitVec 3) : Byte := base + (b.setWidth 8 <<< 3)

/-- The bytes of an instruction, in address order (30_encoding.md R91, R94, R96). -/
def encode : Instr → List Byte
  | .nop => [0x00]
  | .ldBcD16 v => [0x01, lo v, hi v]
  | .ldMemBcA => [0x02]
  | .incBc => [0x03]
  | .incB => [0x04]
  | .decB => [0x05]
  | .ldBD8 v => [0x06, v]
  | .rlca => [0x07]
  | .ldMemA16Sp a => [0x08, lo a, hi a]
  | .addHlBc => [0x09]
  | .ldAMemBc => [0x0A]
  | .decBc => [0x0B]
  | .incC => [0x0C]
  | .decC => [0x0D]
  | .ldCD8 v => [0x0E, v]
  | .rrca => [0x0F]
  | .stop pad => [0x10, pad]
  | .ldDeD16 v => [0x11, lo v, hi v]
  | .ldMemDeA => [0x12]
  | .incDe => [0x13]
  | .incD => [0x14]
  | .decD => [0x15]
  | .ldDD8 v => [0x16, v]
  | .rla => [0x17]
  | .jrE8 e => [0x18, e]
  | .addHlDe => [0x19]
  | .ldAMemDe => [0x1A]
  | .decDe => [0x1B]
  | .incE => [0x1C]
  | .decE => [0x1D]
  | .ldED8 v => [0x1E, v]
  | .rra => [0x1F]
  | .jrNzE8 e => [0x20, e]
  | .ldHlD16 v => [0x21, lo v, hi v]
  | .ldMemHlIncA => [0x22]
  | .incHl => [0x23]
  | .incH => [0x24]
  | .decH => [0x25]
  | .ldHD8 v => [0x26, v]
  | .daa => [0x27]
  | .jrZE8 e => [0x28, e]
  | .addHlHl => [0x29]
  | .ldAMemHlInc => [0x2A]
  | .decHl => [0x2B]
  | .incL => [0x2C]
  | .decL => [0x2D]
  | .ldLD8 v => [0x2E, v]
  | .cpl => [0x2F]
  | .jrNcE8 e => [0x30, e]
  | .ldSpD16 v => [0x31, lo v, hi v]
  | .ldMemHlDecA => [0x32]
  | .incSp => [0x33]
  | .incMemHl => [0x34]
  | .decMemHl => [0x35]
  | .ldMemHlD8 v => [0x36, v]
  | .scf => [0x37]
  | .jrCE8 e => [0x38, e]
  | .addHlSp => [0x39]
  | .ldAMemHlDec => [0x3A]
  | .decSp => [0x3B]
  | .incA => [0x3C]
  | .decA => [0x3D]
  | .ldAD8 v => [0x3E, v]
  | .ccf => [0x3F]
  | .ldBB => [0x40]
  | .ldBC => [0x41]
  | .ldBD => [0x42]
  | .ldBE => [0x43]
  | .ldBH => [0x44]
  | .ldBL => [0x45]
  | .ldBMemHl => [0x46]
  | .ldBA => [0x47]
  | .ldCB => [0x48]
  | .ldCC => [0x49]
  | .ldCD => [0x4A]
  | .ldCE => [0x4B]
  | .ldCH => [0x4C]
  | .ldCL => [0x4D]
  | .ldCMemHl => [0x4E]
  | .ldCA => [0x4F]
  | .ldDB => [0x50]
  | .ldDC => [0x51]
  | .ldDD => [0x52]
  | .ldDE => [0x53]
  | .ldDH => [0x54]
  | .ldDL => [0x55]
  | .ldDMemHl => [0x56]
  | .ldDA => [0x57]
  | .ldEB => [0x58]
  | .ldEC => [0x59]
  | .ldED => [0x5A]
  | .ldEE => [0x5B]
  | .ldEH => [0x5C]
  | .ldEL => [0x5D]
  | .ldEMemHl => [0x5E]
  | .ldEA => [0x5F]
  | .ldHB => [0x60]
  | .ldHC => [0x61]
  | .ldHD => [0x62]
  | .ldHE => [0x63]
  | .ldHH => [0x64]
  | .ldHL => [0x65]
  | .ldHMemHl => [0x66]
  | .ldHA => [0x67]
  | .ldLB => [0x68]
  | .ldLC => [0x69]
  | .ldLD => [0x6A]
  | .ldLE => [0x6B]
  | .ldLH => [0x6C]
  | .ldLL => [0x6D]
  | .ldLMemHl => [0x6E]
  | .ldLA => [0x6F]
  | .ldMemHlB => [0x70]
  | .ldMemHlC => [0x71]
  | .ldMemHlD => [0x72]
  | .ldMemHlE => [0x73]
  | .ldMemHlH => [0x74]
  | .ldMemHlL => [0x75]
  | .halt => [0x76]
  | .ldMemHlA => [0x77]
  | .ldAB => [0x78]
  | .ldAC => [0x79]
  | .ldAD => [0x7A]
  | .ldAE => [0x7B]
  | .ldAH => [0x7C]
  | .ldAL => [0x7D]
  | .ldAMemHl => [0x7E]
  | .ldAA => [0x7F]
  | .addAB => [0x80]
  | .addAC => [0x81]
  | .addAD => [0x82]
  | .addAE => [0x83]
  | .addAH => [0x84]
  | .addAL => [0x85]
  | .addAMemHl => [0x86]
  | .addAA => [0x87]
  | .adcAB => [0x88]
  | .adcAC => [0x89]
  | .adcAD => [0x8A]
  | .adcAE => [0x8B]
  | .adcAH => [0x8C]
  | .adcAL => [0x8D]
  | .adcAMemHl => [0x8E]
  | .adcAA => [0x8F]
  | .subB => [0x90]
  | .subC => [0x91]
  | .subD => [0x92]
  | .subE => [0x93]
  | .subH => [0x94]
  | .subL => [0x95]
  | .subMemHl => [0x96]
  | .subA => [0x97]
  | .sbcAB => [0x98]
  | .sbcAC => [0x99]
  | .sbcAD => [0x9A]
  | .sbcAE => [0x9B]
  | .sbcAH => [0x9C]
  | .sbcAL => [0x9D]
  | .sbcAMemHl => [0x9E]
  | .sbcAA => [0x9F]
  | .andB => [0xA0]
  | .andC => [0xA1]
  | .andD => [0xA2]
  | .andE => [0xA3]
  | .andH => [0xA4]
  | .andL => [0xA5]
  | .andMemHl => [0xA6]
  | .andA => [0xA7]
  | .xorB => [0xA8]
  | .xorC => [0xA9]
  | .xorD => [0xAA]
  | .xorE => [0xAB]
  | .xorH => [0xAC]
  | .xorL => [0xAD]
  | .xorMemHl => [0xAE]
  | .xorA => [0xAF]
  | .orB => [0xB0]
  | .orC => [0xB1]
  | .orD => [0xB2]
  | .orE => [0xB3]
  | .orH => [0xB4]
  | .orL => [0xB5]
  | .orMemHl => [0xB6]
  | .orA => [0xB7]
  | .cpB => [0xB8]
  | .cpC => [0xB9]
  | .cpD => [0xBA]
  | .cpE => [0xBB]
  | .cpH => [0xBC]
  | .cpL => [0xBD]
  | .cpMemHl => [0xBE]
  | .cpA => [0xBF]
  | .retNz => [0xC0]
  | .popBc => [0xC1]
  | .jpNzA16 a => [0xC2, lo a, hi a]
  | .jpA16 a => [0xC3, lo a, hi a]
  | .callNzA16 a => [0xC4, lo a, hi a]
  | .pushBc => [0xC5]
  | .addAD8 v => [0xC6, v]
  | .rst00 => [0xC7]
  | .retZ => [0xC8]
  | .ret => [0xC9]
  | .jpZA16 a => [0xCA, lo a, hi a]
  | .prefixCb cb => [0xCB, cb]
  | .callZA16 a => [0xCC, lo a, hi a]
  | .callA16 a => [0xCD, lo a, hi a]
  | .adcAD8 v => [0xCE, v]
  | .rst08 => [0xCF]
  | .retNc => [0xD0]
  | .popDe => [0xD1]
  | .jpNcA16 a => [0xD2, lo a, hi a]
  | .illegalD3 => [0xD3]
  | .callNcA16 a => [0xD4, lo a, hi a]
  | .pushDe => [0xD5]
  | .subD8 v => [0xD6, v]
  | .rst10 => [0xD7]
  | .retC => [0xD8]
  | .reti => [0xD9]
  | .jpCA16 a => [0xDA, lo a, hi a]
  | .illegalDB => [0xDB]
  | .callCA16 a => [0xDC, lo a, hi a]
  | .illegalDD => [0xDD]
  | .sbcAD8 v => [0xDE, v]
  | .rst18 => [0xDF]
  | .ldhMemA8A n => [0xE0, n]
  | .popHl => [0xE1]
  | .ldMemCA => [0xE2]
  | .illegalE3 => [0xE3]
  | .illegalE4 => [0xE4]
  | .pushHl => [0xE5]
  | .andD8 v => [0xE6, v]
  | .rst20 => [0xE7]
  | .addSpE8 e => [0xE8, e]
  | .jpHl => [0xE9]
  | .ldMemA16A a => [0xEA, lo a, hi a]
  | .illegalEB => [0xEB]
  | .illegalEC => [0xEC]
  | .illegalED => [0xED]
  | .xorD8 v => [0xEE, v]
  | .rst28 => [0xEF]
  | .ldhAMemA8 n => [0xF0, n]
  | .popAf => [0xF1]
  | .ldAMemC => [0xF2]
  | .di => [0xF3]
  | .illegalF4 => [0xF4]
  | .pushAf => [0xF5]
  | .orD8 v => [0xF6, v]
  | .rst30 => [0xF7]
  | .ldHlSpE8 e => [0xF8, e]
  | .ldSpHl => [0xF9]
  | .ldAMemA16 a => [0xFA, lo a, hi a]
  | .ei => [0xFB]
  | .illegalFC => [0xFC]
  | .illegalFD => [0xFD]
  | .cpD8 v => [0xFE, v]
  | .rst38 => [0xFF]
  | .rlcB => [0xCB, 0x00]
  | .rlcC => [0xCB, 0x01]
  | .rlcD => [0xCB, 0x02]
  | .rlcE => [0xCB, 0x03]
  | .rlcH => [0xCB, 0x04]
  | .rlcL => [0xCB, 0x05]
  | .rlcMemHl => [0xCB, 0x06]
  | .rlcA => [0xCB, 0x07]
  | .rrcB => [0xCB, 0x08]
  | .rrcC => [0xCB, 0x09]
  | .rrcD => [0xCB, 0x0A]
  | .rrcE => [0xCB, 0x0B]
  | .rrcH => [0xCB, 0x0C]
  | .rrcL => [0xCB, 0x0D]
  | .rrcMemHl => [0xCB, 0x0E]
  | .rrcA => [0xCB, 0x0F]
  | .rlB => [0xCB, 0x10]
  | .rlC => [0xCB, 0x11]
  | .rlD => [0xCB, 0x12]
  | .rlE => [0xCB, 0x13]
  | .rlH => [0xCB, 0x14]
  | .rlL => [0xCB, 0x15]
  | .rlMemHl => [0xCB, 0x16]
  | .rlA => [0xCB, 0x17]
  | .rrB => [0xCB, 0x18]
  | .rrC => [0xCB, 0x19]
  | .rrD => [0xCB, 0x1A]
  | .rrE => [0xCB, 0x1B]
  | .rrH => [0xCB, 0x1C]
  | .rrL => [0xCB, 0x1D]
  | .rrMemHl => [0xCB, 0x1E]
  | .rrA => [0xCB, 0x1F]
  | .slaB => [0xCB, 0x20]
  | .slaC => [0xCB, 0x21]
  | .slaD => [0xCB, 0x22]
  | .slaE => [0xCB, 0x23]
  | .slaH => [0xCB, 0x24]
  | .slaL => [0xCB, 0x25]
  | .slaMemHl => [0xCB, 0x26]
  | .slaA => [0xCB, 0x27]
  | .sraB => [0xCB, 0x28]
  | .sraC => [0xCB, 0x29]
  | .sraD => [0xCB, 0x2A]
  | .sraE => [0xCB, 0x2B]
  | .sraH => [0xCB, 0x2C]
  | .sraL => [0xCB, 0x2D]
  | .sraMemHl => [0xCB, 0x2E]
  | .sraA => [0xCB, 0x2F]
  | .swapB => [0xCB, 0x30]
  | .swapC => [0xCB, 0x31]
  | .swapD => [0xCB, 0x32]
  | .swapE => [0xCB, 0x33]
  | .swapH => [0xCB, 0x34]
  | .swapL => [0xCB, 0x35]
  | .swapMemHl => [0xCB, 0x36]
  | .swapA => [0xCB, 0x37]
  | .srlB => [0xCB, 0x38]
  | .srlC => [0xCB, 0x39]
  | .srlD => [0xCB, 0x3A]
  | .srlE => [0xCB, 0x3B]
  | .srlH => [0xCB, 0x3C]
  | .srlL => [0xCB, 0x3D]
  | .srlMemHl => [0xCB, 0x3E]
  | .srlA => [0xCB, 0x3F]
  | .bitB b => [0xCB, withBitIndex 0x40 b]
  | .bitC b => [0xCB, withBitIndex 0x41 b]
  | .bitD b => [0xCB, withBitIndex 0x42 b]
  | .bitE b => [0xCB, withBitIndex 0x43 b]
  | .bitH b => [0xCB, withBitIndex 0x44 b]
  | .bitL b => [0xCB, withBitIndex 0x45 b]
  | .bitMemHl b => [0xCB, withBitIndex 0x46 b]
  | .bitA b => [0xCB, withBitIndex 0x47 b]
  | .resB b => [0xCB, withBitIndex 0x80 b]
  | .resC b => [0xCB, withBitIndex 0x81 b]
  | .resD b => [0xCB, withBitIndex 0x82 b]
  | .resE b => [0xCB, withBitIndex 0x83 b]
  | .resH b => [0xCB, withBitIndex 0x84 b]
  | .resL b => [0xCB, withBitIndex 0x85 b]
  | .resMemHl b => [0xCB, withBitIndex 0x86 b]
  | .resA b => [0xCB, withBitIndex 0x87 b]
  | .setB b => [0xCB, withBitIndex 0xC0 b]
  | .setC b => [0xCB, withBitIndex 0xC1 b]
  | .setD b => [0xCB, withBitIndex 0xC2 b]
  | .setE b => [0xCB, withBitIndex 0xC3 b]
  | .setH b => [0xCB, withBitIndex 0xC4 b]
  | .setL b => [0xCB, withBitIndex 0xC5 b]
  | .setMemHl b => [0xCB, withBitIndex 0xC6 b]
  | .setA b => [0xCB, withBitIndex 0xC7 b]

/-- The length of an instruction from its first byte (30_encoding.md R98). -/
def lengthOfFirst (op : Byte) : Nat :=
  if op ∈ ([0x01, 0x11, 0x21, 0x31, 0x08, 0xC2, 0xCA, 0xD2, 0xDA, 0xC3, 0xC4, 0xCC, 0xD4, 0xDC, 0xCD, 0xEA, 0xFA] : List Byte) then 3
  else if op ∈ ([0x06, 0x0E, 0x16, 0x1E, 0x26, 0x2E, 0x36, 0x3E, 0x10, 0x18, 0x20, 0x28, 0x30, 0x38,
      0xC6, 0xCE, 0xD6, 0xDE, 0xE6, 0xEE, 0xF6, 0xFE, 0xE0, 0xF0, 0xE8, 0xF8, 0xCB] : List Byte) then 2
  else 1

/-- The three bytes, in address order, of an instruction whose bits are `w` as spec/opcode_table.json numbers them:
a primary row's byte is bits 7:0 (and a later byte counts on from it); a CB row has the prefix in bits 15:8 and the
second byte in bits 7:0 (30_encoding.md, preamble; log entry 7). Bytes beyond the given bits are 0. -/
def tableBytes (nbits w : Nat) : List Byte :=
  let byte (k : Nat) : Byte := BitVec.ofNat 8 (w / 256 ^ k)
  if 8 < nbits ∧ nbits ≤ 16 ∧ byte 1 = 0xCB then [0xCB, byte 0, 0]
  else [byte 0, byte 1, byte 2]

/-- The instruction the decoder reads from a word of the opcode table (none where it refuses). -/
def decodeTableWord (nbits w : Nat) : Option Instr :=
  match decode (tableBytes nbits w) with
  | .ok (i, _) => some i
  | .error _ => none

end Sys2Proof
end

