-- ==== Sys2Proof/Config.lean ====
section
/-! DEFINITION. The parameters of 00_scope.md R4: what an implementation fixes, and the cartridge the spec leaves open. -/

namespace Sys2Proof.Config

/-- TIMER_CYCLE_SCALE: TIMA counts the M-cycles the CPU returns (00_scope.md R4, decision D1, conflict C2). -/
def timerCycleScale : Nat := 1

/-- ECHO_READ_VALUE: what echo, unusable and unmapped I/O addresses read as (00_scope.md R4, decisions D13, D14). -/
def echoReadValue : Byte := 0xFF

/-- INIT_VRAM, INIT_OAM, INIT_WRAM, INIT_HRAM and the bytes of the default cartridge: what a byte that nothing has
written reads as. DESIGN CHOICE (log entry 3): the spec leaves the contents open. -/
def initByte : Byte := 0x00

/-- INIT_FB: a frame-buffer cell at reset. DESIGN CHOICE (log entry 4): the spec leaves it open. -/
def initShade : Shade := 0

/-- `CartRead` of a cartridge other than the default one: a function of its internal state and the address and of
nothing else (10_state.md R46, 93_implementation_defined.md U9). No body: nothing is known of it (log entry 2). -/
opaque cartRead : Nat → Addr → Byte

/-- `CartWrite` of a cartridge other than the default one: the internal state after a write (10_state.md R46).
No body: nothing is known of it (log entry 2). -/
opaque cartWrite : Nat → Addr → Byte → Nat

end Sys2Proof.Config
end

