-- ==== Sys2Proof/Machine/State.lean ====
section
/-! DEFINITION. The state of the CORE (10_state.md R10 to R46), grouped by owner as the spec groups it, and the state
after reset (10_state.md R48, 70_reset_and_hazards.md R400). -/

namespace Sys2Proof.Machine

/-- Why the machine stops with a fault. The spec gives the hardware none (60_exceptions.md R315, R316). -/
inductive Fault where
  /-- Raised by `fetch` if the decoder refuses the three bytes at PC. SAFE and never raised: three bytes are never too few
  (30_encoding.md R101; log entry 20). -/
  | undecodable (e : Nat)
deriving DecidableEq, Repr

/-- Why an instruction has no meaning. -/
inductive Refusal where
  /-- Raised by an arm of `exec` whose instruction has no meaning yet. SAFE; no arm raises it. -/
  | notModelled (mnemonic : String)
deriving DecidableEq, Repr

/-- The bytes behind the bus that are plain storage: cartridge ROM of the default cartridge, VRAM, WRAM, OAM and HRAM, each
byte at its bus address (20_memory.md R51). Strictly rising addresses, no byte equal to `Config.initByte`. -/
abbrev Memory := List Host.Cell

/-- One row of the screen, 160 cells (10_state.md R42, R43). -/
abbrev Row := Vector Shade 160

/-- The frame buffer, 144 rows (10_state.md R43). -/
abbrev FrameBuffer := Vector Row 144

/-- The cartridge behind `CartRead` and `CartWrite` (10_state.md R46). -/
inductive Cart where
  /-- The default: 32 KiB of read-only ROM at 0x0000, no external RAM (decision D26). Its bytes are in `State.mem`. -/
  | flatRom
  /-- Any other cartridge, by its internal state; `Config.cartRead` and `Config.cartWrite` say what it does (log entry 2). -/
  | attached (inner : Nat)
deriving DecidableEq, Repr

/-- The CPU (10_state.md R10 to R18). -/
structure Cpu where
  a : Byte
  f : Byte
  b : Byte
  c : Byte
  d : Byte
  e : Byte
  h : Byte
  l : Byte
  sp : Addr
  pc : Addr
  ime : Bool
  /-- `ime_delay`, 0 to 2 (R17). -/
  imeDelay : Nat
  halted : Bool
  /-- THE MODEL'S OWN field: the M-cycle count the CPU step returns (60_exceptions.md R301; log entry 9). -/
  cycles : Nat
deriving DecidableEq, Repr

/-- The registers the bus owns (10_state.md R19, R20, R24). -/
structure BusRegs where
  ieReg : Byte
  ifReg : Byte
  sb : Byte
  sc : Byte
deriving DecidableEq, Repr

/-- The timer (10_state.md R25 to R29). -/
structure Timer where
  div : Byte
  divRemainder : Nat
  tima : Byte
  timaRemainder : Nat
  tma : Byte
  tac : Byte
  req : Bool
deriving DecidableEq, Repr

/-- The four states of the PPU (10_state.md R38). -/
inductive Mode where
  | hblank | vblank | oamScan | draw
deriving DecidableEq, Repr

/-- An entry of the sprite buffer: the four bytes of an OAM entry and its index (10_state.md R41). -/
structure Sprite where
  y : Byte
  x : Byte
  tile : Byte
  attr : Byte
  idx : Nat
deriving DecidableEq, Repr

/-- The PPU, but for VRAM and OAM (10_state.md R30 to R45). -/
structure Ppu where
  lcdc : Byte
  stat : Byte
  scy : Byte
  scx : Byte
  ly : Byte
  lyc : Byte
  dma : Byte
  bgp : Byte
  obp0 : Byte
  obp1 : Byte
  wy : Byte
  wx : Byte
  mode : Mode
  dots : Nat
  windowLine : Nat
  sprites : List Sprite
  bgIdx : Row
  fb : FrameBuffer
  statLinePrev : Bool
  vblankReq : Bool
  statReq : Bool
deriving DecidableEq, Repr

/-- What the CORE has handed out, newest first. THE MODEL'S OWN record of events the spec calls outputs
(47_system.md R265, 60_exceptions.md R368); no rule reads it (log entry 10). -/
structure Outputs where
  frames : List FrameBuffer
  reports : List Byte
deriving DecidableEq, Repr

/-- The state of the machine. -/
structure State where
  cpu : Cpu
  bus : BusRegs
  timer : Timer
  ppu : Ppu
  mem : Memory
  cart : Cart
  out : Outputs
deriving DecidableEq, Repr

/-- The CPU after reset (10_state.md R48). -/
def Cpu.reset : Cpu :=
  { a := 0x01, f := 0xB0, b := 0x00, c := 0x13, d := 0x00, e := 0xD8, h := 0x01, l := 0x4D, sp := 0xFFFE, pc := 0x0100,
    ime := false, imeDelay := 0, halted := false, cycles := 0 }

/-- The PPU after reset with the frame buffer `fb` (10_state.md R48). -/
def Ppu.resetWith (fb : FrameBuffer) : Ppu :=
  { lcdc := 0x91, stat := 0x81, scy := 0, scx := 0, ly := 0, lyc := 0, dma := 0, bgp := 0xFC, obp0 := 0, obp1 := 0,
    wy := 0, wx := 0, mode := .vblank, dots := 0, windowLine := 0, sprites := [], bgIdx := Vector.replicate 160 0, fb := fb,
    statLinePrev := false, vblankReq := false, statReq := false }

/-- The machine right after reset, for given contents of the memories and the frame buffer (the parameters `INIT_*`) and a
given cartridge (70_reset_and_hazards.md R402). -/
def State.resetWith (mem : Memory) (fb : FrameBuffer) (cart : Cart) : State :=
  { cpu := Cpu.reset
    bus := { ieReg := 0, ifReg := 0, sb := 0, sc := 0 }
    timer := { div := 0, divRemainder := 0, tima := 0, timaRemainder := 0, tma := 0, tac := 0, req := false }
    ppu := Ppu.resetWith fb
    mem := mem
    cart := cart
    out := { frames := [], reports := [] } }

/-- The machine right after reset: every register at its value of 10_state.md R48, nothing listed in memory, the default
cartridge with no program in it. -/
def State.reset : State :=
  State.resetWith [] (Vector.replicate 144 (Vector.replicate 160 Config.initShade)) .flatRom

end Sys2Proof.Machine
end

