-- ==== Sys2Proof/Machine/Memory.lean ====
section
/-! DEFINITION. Memory as a list of cells in one canonical form: strictly rising addresses, and no cell that holds what an
unlisted address reads as. -/

namespace Sys2Proof.Machine

/-- What an address that is not listed reads as (DESIGN CHOICE, log entry 3). -/
def Memory.unlisted : Byte := Config.initByte

/-- The byte at an address. -/
def Memory.read : Memory → Nat → Byte
  | [], _ => Memory.unlisted
  | cell :: rest, a => if cell.1 = a then cell.2 else Memory.read rest a

/-- Drop an address from the list. -/
def Memory.erase : Memory → Nat → Memory
  | [], _ => []
  | cell :: rest, a => if cell.1 = a then Memory.erase rest a else cell :: Memory.erase rest a

/-- List a byte before the first higher address. -/
def Memory.insert : Memory → Nat → Byte → Memory
  | [], a, v => [(a, v)]
  | cell :: rest, a, v => if a < cell.1 then (a, v) :: cell :: rest else cell :: Memory.insert rest a v

/-- Store a byte; storing what an unlisted address reads as drops the address from the list. -/
def Memory.write (m : Memory) (a : Nat) (v : Byte) : Memory :=
  if v = Memory.unlisted then Memory.erase m a else Memory.insert (Memory.erase m a) a v

/-- Every listed address is above `bound`, strictly rising, and holds something else than an unlisted address reads as. -/
def Memory.wfAbove : Option Nat → Memory → Bool
  | _, [] => true
  | bound, cell :: rest =>
    (match bound with
      | none => true
      | some low => decide (low < cell.1))
    && decide (cell.2 ≠ Memory.unlisted) && Memory.wfAbove (some cell.1) rest

/-- The canonical form. -/
def Memory.wf (m : Memory) : Bool := Memory.wfAbove none m

end Sys2Proof.Machine
end

