-- ==== Sys2Proof/Machine/Bus.lean ====
section
/-! DEFINITION. The bus: the address decoder, every region and every I/O register on read and on write, OAM DMA, and the
interrupt-flag latch (20_memory.md). -/

namespace Sys2Proof.Machine

/-- The owners of the address space (20_memory.md R51). -/
inductive Region where
  | rom | vram | extRam | wram | echo | oam | unusable | io | hram | ie
deriving DecidableEq, Repr

/-- The I/O registers the decoder knows (20_memory.md R59). -/
inductive IoReg where
  | sb | sc | div | tima | tma | tac | ifReg | lcdc | stat | scy | scx | ly | lyc | dma | bgp | obp0 | obp1 | wy | wx
deriving DecidableEq, Repr

/-- The address decoder: an address is owned by the first row whose range contains it (20_memory.md R51). -/
def regionOf (addr : Addr) : Region :=
  let n := addr.toNat
  if n ≤ 0x7FFF then .rom
  else if n ≤ 0x9FFF then .vram
  else if n ≤ 0xBFFF then .extRam
  else if n ≤ 0xDFFF then .wram
  else if n ≤ 0xFDFF then .echo
  else if n ≤ 0xFE9F then .oam
  else if n ≤ 0xFEFF then .unusable
  else if n ≤ 0xFF7F then .io
  else if n ≤ 0xFFFE then .hram
  else .ie

/-- The register at an I/O address, none where it is unmapped (20_memory.md R59, R61). -/
def ioRegOf (addr : Addr) : Option IoReg :=
  match (lo addr).toNat with
  | 0x01 => some .sb
  | 0x02 => some .sc
  | 0x04 => some .div
  | 0x05 => some .tima
  | 0x06 => some .tma
  | 0x07 => some .tac
  | 0x0F => some .ifReg
  | 0x40 => some .lcdc
  | 0x41 => some .stat
  | 0x42 => some .scy
  | 0x43 => some .scx
  | 0x44 => some .ly
  | 0x45 => some .lyc
  | 0x46 => some .dma
  | 0x47 => some .bgp
  | 0x48 => some .obp0
  | 0x49 => some .obp1
  | 0x4A => some .wy
  | 0x4B => some .wx
  | _ => none

/-- VRAM is closed to the bus in DRAW (20_memory.md R53). -/
def vramLocked (m : Mode) : Bool := m == .draw

/-- OAM is closed to the bus in OAM_SCAN and DRAW (20_memory.md R57). -/
def oamLocked (m : Mode) : Bool := m == .oamScan || m == .draw

/-- What a refused read returns (20_memory.md R53, R57). -/
def refusedRead : Byte := 0xFF

/-- `CartRead` (10_state.md R46): the default cartridge has ROM below 0x8000 and no external RAM. -/
def cartRead (s : State) (addr : Addr) : Byte :=
  match s.cart with
  | .flatRom => if addr.toNat ≤ 0x7FFF then s.mem.read addr.toNat else 0xFF
  | .attached inner => Config.cartRead inner addr

/-- `CartWrite` (10_state.md R46): the default cartridge ignores it. -/
def cartWrite (s : State) (addr : Addr) (v : Byte) : State :=
  match s.cart with
  | .flatRom => s
  | .attached inner => { s with cart := .attached (Config.cartWrite inner addr v) }

/-- Reading an I/O register (20_memory.md R60). -/
def ioRead (s : State) : IoReg → Byte
  | .sb => s.bus.sb
  | .sc => s.bus.sc
  | .div => s.timer.div
  | .tima => s.timer.tima
  | .tma => s.timer.tma
  | .tac => s.timer.tac
  | .ifReg => s.bus.ifReg
  | .lcdc => s.ppu.lcdc
  | .stat => s.ppu.stat
  | .scy => s.ppu.scy
  | .scx => s.ppu.scx
  | .ly => s.ppu.ly
  | .lyc => s.ppu.lyc
  | .dma => s.ppu.dma
  | .bgp => s.ppu.bgp
  | .obp0 => s.ppu.obp0
  | .obp1 => s.ppu.obp1
  | .wy => s.ppu.wy
  | .wx => s.ppu.wx

/-- `BusRead` (20_memory.md R64): total, and changes no state. -/
def busRead (s : State) (addr : Addr) : Byte :=
  match regionOf addr with
  | .rom | .extRam => cartRead s addr
  | .vram => if vramLocked s.ppu.mode then refusedRead else s.mem.read addr.toNat
  | .wram | .hram => s.mem.read addr.toNat
  | .oam => if oamLocked s.ppu.mode then refusedRead else s.mem.read addr.toNat
  | .echo | .unusable => Config.echoReadValue
  | .io =>
    match ioRegOf addr with
    | some r => ioRead s r
    | none => Config.echoReadValue
  | .ie => s.bus.ieReg

/-- Store a byte of plain storage, no lock asked. -/
def State.storeByte (s : State) (n : Nat) (v : Byte) : State := { s with mem := s.mem.write n v }

/-- The address of byte `i` of OAM (10_state.md R22). -/
def oamAddr (i : Nat) : Nat := 0xFE00 + i

/-- The address the DMA transfer started by `v` reads byte `i` from (20_memory.md R71). -/
def dmaSource (v : Byte) (i : Nat) : Addr := join v 0x00 + BitVec.ofNat 16 i

/-- The copy of 20_memory.md R71: 160 bytes into OAM, in order, the reads through the bus, the writes not subject to the lock. -/
def dmaCopy (v : Byte) (s : State) : State :=
  (List.range 160).foldl (fun t i => t.storeByte (oamAddr i) (busRead t (dmaSource v i))) s

/-- Writing an I/O register (20_memory.md R60). -/
def ioWrite (s : State) (r : IoReg) (v : Byte) : State :=
  match r with
  | .sb => { s with bus.sb := v }
  | .sc => { s with bus.sc := v }
  | .div => { s with timer.div := 0, timer.divRemainder := 0 }
  | .tima => { s with timer.tima := v }
  | .tma => { s with timer.tma := v }
  | .tac => { s with timer.tac := v }
  | .ifReg => { s with bus.ifReg := v }
  | .lcdc => { s with ppu.lcdc := v }
  | .stat => { s with ppu.stat := (s.ppu.stat &&& 0x07) ||| (v &&& 0xF8) }
  | .scy => { s with ppu.scy := v }
  | .scx => { s with ppu.scx := v }
  | .ly => s
  | .lyc => { s with ppu.lyc := v }
  | .dma => dmaCopy v { s with ppu.dma := v }
  | .bgp => { s with ppu.bgp := v }
  | .obp0 => { s with ppu.obp0 := v }
  | .obp1 => { s with ppu.obp1 := v }
  | .wy => { s with ppu.wy := v }
  | .wx => { s with ppu.wx := v }

/-- `BusWrite` (20_memory.md R65): total; a write to a locked, unmapped, echo or unusable address changes nothing. -/
def busWrite (s : State) (addr : Addr) (v : Byte) : State :=
  match regionOf addr with
  | .rom | .extRam => cartWrite s addr v
  | .vram => if vramLocked s.ppu.mode then s else s.storeByte addr.toNat v
  | .wram | .hram => s.storeByte addr.toNat v
  | .oam => if oamLocked s.ppu.mode then s else s.storeByte addr.toNat v
  | .echo | .unusable => s
  | .io =>
    match ioRegOf addr with
    | some r => ioWrite s r v
    | none => s
  | .ie => { s with bus.ieReg := v }

/-- `Latch` (20_memory.md R66): the request lines into IF, then the lines cleared. -/
def latch (s : State) : State :=
  let raised : Byte :=
    (if s.ppu.vblankReq then 0x01 else 0) ||| (if s.ppu.statReq then 0x02 else 0) ||| (if s.timer.req then 0x04 else 0)
  { s with bus.ifReg := s.bus.ifReg ||| raised, ppu.vblankReq := false, ppu.statReq := false, timer.req := false }

end Sys2Proof.Machine
end

