-- ==== Sys2Proof/Machine/Flags.lean ====
section
/-! DEFINITION. Flags and the arithmetic of the instruction set as pure functions: operands are taken as integers, the exact
result is computed, and narrowed at the end (42_alu_8bit.md R184). -/

namespace Sys2Proof.Machine

/-- The four flags (10_state.md R13). -/
structure Flags where
  z : Bool
  n : Bool
  h : Bool
  c : Bool
deriving DecidableEq, Repr

/-- F from the flags: Z = F[7], N = F[6], H = F[5], C = F[4], the low nibble zero (10_state.md R12, R13). -/
def Flags.pack (fl : Flags) : Byte :=
  (if fl.z then 0x80 else 0) ||| (if fl.n then 0x40 else 0) ||| (if fl.h then 0x20 else 0) ||| (if fl.c then 0x10 else 0)

/-- The flags in F (10_state.md R13). -/
def Flags.unpack (f : Byte) : Flags := { z := bit f 7, n := bit f 6, h := bit f 5, c := bit f 4 }

/-- `Cond` of 00_scope.md R7. -/
def Flags.meets (fl : Flags) : Cond → Bool
  | .NZ => !fl.z
  | .Z => fl.z
  | .NC => !fl.c
  | .C => fl.c

/-- Addition with a carry in: ADD has carry 0 (42_alu_8bit.md R172), ADC the C flag (R173). -/
def addWithCarry (a x : Byte) (carry : Bool) : Byte × Flags :=
  let sum := a.toNat + x.toNat + carry.toNat
  let r : Byte := BitVec.ofNat 8 sum
  (r, { z := r == 0
        n := false
        h := decide (0x0F < a.toNat % 16 + x.toNat % 16 + carry.toNat)
        c := decide (0xFF < sum) })

/-- Subtraction with a borrow in: SUB and CP have borrow 0 (42_alu_8bit.md R174, R179), SBC the C flag (R175). -/
def subWithBorrow (a x : Byte) (borrow : Bool) : Byte × Flags :=
  let r : Byte := a - x - BitVec.ofNat 8 borrow.toNat
  (r, { z := r == 0
        n := true
        h := decide (a.toNat % 16 < x.toNat % 16 + borrow.toNat)
        c := decide (a.toNat < x.toNat + borrow.toNat) })

/-- The flags of AND (42_alu_8bit.md R176), XOR and OR (R177, R178), by their result. -/
def logicFlags (r : Byte) (half : Bool) : Flags := { z := r == 0, n := false, h := half, c := false }

/-- An accumulator operation: what A becomes and the flags, from A, the operand and the C flag alone
(42_alu_8bit.md R171 to R179). -/
def aluApply (op : AluOp) (a x : Byte) (carry : Bool) : Byte × Flags :=
  match op with
  | .add => addWithCarry a x false
  | .adc => addWithCarry a x carry
  | .sub => subWithBorrow a x false
  | .sbc => subWithBorrow a x carry
  | .and => (a &&& x, logicFlags (a &&& x) true)
  | .xor => (a ^^^ x, logicFlags (a ^^^ x) false)
  | .or => (a ||| x, logicFlags (a ||| x) false)
  | .cp => (a, (subWithBorrow a x false).2)

/-- INC of an 8-bit operand (42_alu_8bit.md R180): C keeps its value. -/
def inc8 (v : Byte) (old : Flags) : Byte × Flags :=
  let r := v + 1
  (r, { z := r == 0, n := false, h := decide (v.toNat % 16 = 0x0F), c := old.c })

/-- DEC of an 8-bit operand (42_alu_8bit.md R182): C keeps its value. -/
def dec8 (v : Byte) (old : Flags) : Byte × Flags :=
  let r := v - 1
  (r, { z := r == 0, n := true, h := decide (v.toNat % 16 = 0x00), c := old.c })

/-- ADD HL,rr (43_alu_16bit.md R200): Z keeps its value. -/
def addHlFlags (hl v : Addr) (old : Flags) : Flags :=
  { z := old.z
    n := false
    h := decide (0x0FFF < hl.toNat % 4096 + v.toNat % 4096)
    c := decide (0xFFFF < hl.toNat + v.toNat) }

/-- The flags of ADD SP,e8 and LD HL,SP+e8: carries of the unsigned addition of SP's low byte and the raw byte
(43_alu_16bit.md R203, 41_loads_16bit_stack.md R153). -/
def spOffsetFlags (sp : Addr) (e : Byte) : Flags :=
  { z := false
    n := false
    h := decide (0x0F < sp.toNat % 16 + e.toNat % 16)
    c := decide (0xFF < sp.toNat % 256 + e.toNat) }

/-- A rotate or shift: the result and the bit shifted out, which is the new C (46_cb_prefixed.md R241 to R248; for SWAP the
new C is 0). -/
def shiftApply (op : ShiftOp) (v : Byte) (carry : Bool) : Byte × Bool :=
  let inLow (c : Bool) : Byte := if c then 0x01 else 0
  let inHigh (c : Bool) : Byte := if c then 0x80 else 0
  match op with
  | .rlc => ((v <<< 1) ||| inLow (bit v 7), bit v 7)
  | .rrc => ((v >>> 1) ||| inHigh (bit v 0), bit v 0)
  | .rl => ((v <<< 1) ||| inLow carry, bit v 7)
  | .rr => ((v >>> 1) ||| inHigh carry, bit v 0)
  | .sla => (v <<< 1, bit v 7)
  | .sra => ((v >>> 1) ||| (v &&& 0x80), bit v 0)
  | .swap => ((v <<< 4) ||| (v >>> 4), false)
  | .srl => (v >>> 1, bit v 0)

/-- The flags of a CB rotate or shift (46_cb_prefixed.md R240). -/
def shiftFlags (r : Byte) (carry : Bool) : Flags := { z := r == 0, n := false, h := false, c := carry }

/-- The flags of an accumulator rotate: Z is 0 whatever the result (44_accumulator_flags.md R210 to R213). -/
def accRotateFlags (carry : Bool) : Flags := { z := false, n := false, h := false, c := carry }

/-- DAA (44_accumulator_flags.md R214; the worked example is conflict C1, resolved for the rule). -/
def daa (a : Byte) (old : Flags) : Byte × Flags :=
  if old.n then
    let adj : Byte := (if old.h then 0x06 else 0) + (if old.c then 0x60 else 0)
    let r := a - adj
    (r, { z := r == 0, n := true, h := false, c := old.c })
  else
    let fixLow := old.h || decide (0x09 < a.toNat % 16)
    let fixHigh := old.c || decide (0x99 < a.toNat)
    let adj : Byte := (if fixLow then 0x06 else 0) + (if fixHigh then 0x60 else 0)
    let r := a + adj
    (r, { z := r == 0, n := false, h := false, c := old.c || fixHigh })

end Sys2Proof.Machine
end

