-- ==== Sys2Proof/Machine/Ops.lean ====
section
/-! DEFINITION. The named operations the meanings are built from: register updates, the stack, fetching, and taking and
leaving an interrupt (00_scope.md R7, 60_exceptions.md R301 to R309). -/

namespace Sys2Proof.Machine

/-- `cycles <- n` (00_scope.md R7). -/
def State.took (s : State) (n : Nat) : State := { s with cpu.cycles := n }

/-- Write PC. -/
def State.setPc (s : State) (v : Addr) : State := { s with cpu.pc := v }

/-- Write SP. -/
def State.setSp (s : State) (v : Addr) : State := { s with cpu.sp := v }

/-- Write A. -/
def State.setA (s : State) (v : Byte) : State := { s with cpu.a := v }

/-- Write F: the low nibble is masked out (10_state.md R12). -/
def State.setF (s : State) (v : Byte) : State := { s with cpu.f := v &&& 0xF0 }

/-- The flags (10_state.md R13). -/
def State.flags (s : State) : Flags := Flags.unpack s.cpu.f

/-- Write the four flags (10_state.md R12, R13). -/
def State.setFlags (s : State) (fl : Flags) : State := s.setF fl.pack

/-- Write IME. -/
def State.setIme (s : State) (v : Bool) : State := { s with cpu.ime := v }

/-- Write `ime_delay`. -/
def State.setImeDelay (s : State) (n : Nat) : State := { s with cpu.imeDelay := n }

/-- Write `halted`. -/
def State.setHalted (s : State) (v : Bool) : State := { s with cpu.halted := v }

/-- Write IF from inside the machine. -/
def State.setIf (s : State) (v : Byte) : State := { s with bus.ifReg := v }

/-- `Report(op)` (47_system.md R265). -/
def State.report (s : State) (op : Byte) : State := { s with out.reports := op :: s.out.reports }

/-- `Push16` (00_scope.md R7): the high byte at the higher address, first. -/
def push16 (v : Addr) (s : State) : State :=
  let s1 := s.setSp (s.cpu.sp - 1)
  let s2 := busWrite s1 s1.cpu.sp (hi v)
  let s3 := s2.setSp (s2.cpu.sp - 1)
  busWrite s3 s3.cpu.sp (lo v)

/-- The word `Pop16` answers (00_scope.md R7): the low byte at SP, the high byte above it. -/
def popped (s : State) : Addr := join (busRead s (s.cpu.sp + 1)) (busRead s s.cpu.sp)

/-- SP after `Pop16` (00_scope.md R7). -/
def dropWord (s : State) : State := s.setSp (s.cpu.sp + 2)

/-- `MemWrite(addr, 2, v)` (00_scope.md R7): the low byte first. -/
def memWrite16 (s : State) (addr : Addr) (v : Addr) : State := busWrite (busWrite s addr (lo v)) (addr + 1) (hi v)

/-- The bytes at PC, as many as the longest instruction has (00_scope.md R7 `Fetch8`, 30_encoding.md R90). No bus read has a
side effect (20_memory.md R70), so a byte read and not used leaves no trace (log entry 1). -/
def fetchBytes (s : State) : List Byte :=
  [busRead s s.cpu.pc, busRead s (s.cpu.pc + 1), busRead s (s.cpu.pc + 2)]

/-- Fetch and decode: the instruction at PC, and the state with PC past all of its bytes (10_state.md R15). -/
def fetch (s : State) : Except DecodeError (Instr × State) :=
  match decode (fetchBytes s) with
  | .ok (i, rest) => .ok (i, s.setPc (s.cpu.pc + BitVec.ofNat 16 ((fetchBytes s).length - rest.length)))
  | .error e => .error e

/-- The five interrupt sources, highest priority first (60_exceptions.md R306, R307). -/
inductive Interrupt where
  | vblank | lcdStat | timer | serial | joypad
deriving DecidableEq, Repr

/-- The source's bit in IE and IF (60_exceptions.md R306). -/
def Interrupt.index : Interrupt → Nat
  | .vblank => 0
  | .lcdStat => 1
  | .timer => 2
  | .serial => 3
  | .joypad => 4

/-- The source's mask in IE and IF (60_exceptions.md R306). -/
def Interrupt.mask (i : Interrupt) : Byte := 1 <<< i.index

/-- The source's handler address (60_exceptions.md R305, R306). -/
def Interrupt.vector (i : Interrupt) : Addr := 0x0040 + 8 * BitVec.ofNat 16 i.index

/-- `IE & IF & 0x1F`, read as stored (60_exceptions.md R301). -/
def pending (s : State) : Byte := s.bus.ieReg &&& s.bus.ifReg &&& 0x1F

/-- The least source among pending bits (60_exceptions.md R307). -/
def firstSource (p : Byte) : Option Interrupt :=
  if bit p 0 then some .vblank
  else if bit p 1 then some .lcdStat
  else if bit p 2 then some .timer
  else if bit p 3 then some .serial
  else if bit p 4 then some .joypad
  else none

/-- TAKING AN INTERRUPT (60_exceptions.md R305): PC is pushed and becomes the vector; the source's bit of IF, IME and `halted`
are cleared; 5 M-cycles. Nothing else is saved or changed. -/
def takeInterrupt (i : Interrupt) (s : State) : State :=
  let pushed := push16 s.cpu.pc s
  ((((pushed.setPc i.vector).setIf (pushed.bus.ifReg &&& ~~~ i.mask)).setIme false).setHalted false).took 5

/-- RETURNING FROM AN INTERRUPT (60_exceptions.md R309, 45_control_transfer.md R229): PC is popped, IME set at once. -/
def returnFromInterrupt (s : State) : State := ((dropWord s).setPc (popped s)).setIme true

/-- The EI delay at the start of a non-halted step (60_exceptions.md R303). -/
def resolveImeDelay (s : State) : State :=
  if 0 < s.cpu.imeDelay then
    let s1 := s.setImeDelay (s.cpu.imeDelay - 1)
    if s1.cpu.imeDelay = 0 then s1.setIme true else s1
  else s

/-- A step that begins halted (60_exceptions.md R302). -/
def haltedStep (s : State) : State :=
  (if pending s ≠ 0 then s.setHalted false else s).took 1

/-- The interrupt a non-halted step dispatches, after the EI delay has been handled (60_exceptions.md R304). -/
def dispatched (s : State) : Option Interrupt := if s.cpu.ime then firstSource (pending s) else none

end Sys2Proof.Machine
end

