-- ==== Sys2Proof/Machine/Operands.lean ====
section
/-! DEFINITION. Operand forms (00_scope.md R6, 30_encoding.md R92, R93, 42_alu_8bit.md R171, 46_cb_prefixed.md R240). -/

namespace Sys2Proof.Machine

/-- Read an 8-bit register (10_state.md R10). -/
def State.getR8 (s : State) : R8 → Byte
  | .B => s.cpu.b
  | .C => s.cpu.c
  | .D => s.cpu.d
  | .E => s.cpu.e
  | .H => s.cpu.h
  | .L => s.cpu.l
  | .A => s.cpu.a

/-- Write an 8-bit register (10_state.md R10). -/
def State.setR8 (s : State) (r : R8) (v : Byte) : State :=
  match r with
  | .B => { s with cpu.b := v }
  | .C => { s with cpu.c := v }
  | .D => { s with cpu.d := v }
  | .E => { s with cpu.e := v }
  | .H => { s with cpu.h := v }
  | .L => { s with cpu.l := v }
  | .A => { s with cpu.a := v }

/-- The view BC (10_state.md R11). -/
def State.bc (s : State) : Addr := join s.cpu.b s.cpu.c

/-- The view DE (10_state.md R11). -/
def State.de (s : State) : Addr := join s.cpu.d s.cpu.e

/-- The view HL (10_state.md R11). -/
def State.hl (s : State) : Addr := join s.cpu.h s.cpu.l

/-- The view AF (10_state.md R11). -/
def State.af (s : State) : Addr := join s.cpu.a s.cpu.f

/-- Write HL: both halves (10_state.md R11). -/
def State.setHl (s : State) (v : Addr) : State := { s with cpu.h := hi v, cpu.l := lo v }

/-- Read an entry of `R16` (30_encoding.md R92). -/
def State.getR16 (s : State) : R16 → Addr
  | .BC => s.bc
  | .DE => s.de
  | .HL => s.hl
  | .SP => s.cpu.sp

/-- Write an entry of `R16` (10_state.md R11, R14). -/
def State.setR16 (s : State) (r : R16) (v : Addr) : State :=
  match r with
  | .BC => { s with cpu.b := hi v, cpu.c := lo v }
  | .DE => { s with cpu.d := hi v, cpu.e := lo v }
  | .HL => s.setHl v
  | .SP => s.setSp v

/-- Read an entry of `R16STK` (30_encoding.md R92). -/
def State.getR16Stk (s : State) : R16Stk → Addr
  | .BC => s.bc
  | .DE => s.de
  | .HL => s.hl
  | .AF => s.af

/-- Write an entry of `R16STK`; writing AF masks F's low nibble (00_scope.md R6, 10_state.md R12). -/
def State.setR16Stk (s : State) (r : R16Stk) (v : Addr) : State :=
  match r with
  | .BC => s.setR16 .BC v
  | .DE => s.setR16 .DE v
  | .HL => s.setR16 .HL v
  | .AF => (s.setA (hi v)).setF (lo v)

/-- `GetOp` (46_cb_prefixed.md R240): a register, or the byte at HL. -/
def getLoc (s : State) : Loc → Byte
  | .reg r => s.getR8 r
  | .memHl => busRead s s.hl

/-- `PutOp` (46_cb_prefixed.md R240). -/
def putLoc (s : State) (l : Loc) (v : Byte) : State :=
  match l with
  | .reg r => s.setR8 r v
  | .memHl => busWrite s s.hl v

/-- One count for a register operand, another for (HL) (70_reset_and_hazards.md R420). -/
def locCost (l : Loc) (reg mem : Nat) : Nat :=
  match l with
  | .reg _ => reg
  | .memHl => mem

/-- The second operand of an accumulator operation (42_alu_8bit.md R171). -/
def getSource (s : State) : Source → Byte
  | .loc l => getLoc s l
  | .imm v => v

/-- The cycles of an accumulator operation (42_alu_8bit.md R171). -/
def sourceCost : Source → Nat
  | .loc l => locCost l 1 2
  | .imm _ => 2

/-- `Cond(cc)` (00_scope.md R7). -/
def State.holds (s : State) (cc : Cond) : Bool := s.flags.meets cc

/-- The operand a 3-bit field names in the table `R8` (30_encoding.md R92). -/
def locOfField (i : BitVec 3) : Loc :=
  pick8 (.reg .B) (.reg .C) (.reg .D) (.reg .E) (.reg .H) (.reg .L) .memHl (.reg .A) i

/-- The sub-operation a 3-bit field names in CB class 0 (30_encoding.md R92). -/
def shiftOfField (i : BitVec 3) : ShiftOp := pick8 .rlc .rrc .rl .rr .sla .sra .swap .srl i

end Sys2Proof.Machine
end

