-- ==== Sys2Proof/Machine/AccFlags.lean ====
section
/-! DEFINITION. Accumulator rotates, DAA, CPL, SCF, CCF (44_accumulator_flags.md). -/

namespace Sys2Proof.Machine

/-- RLCA, RRCA, RLA, RRA (R210 to R213): the rotate of 46_cb_prefixed.md on A, but Z is 0. -/
def accRotate (op : ShiftOp) (s : State) : State :=
  let result := shiftApply op s.cpu.a s.flags.c
  ((s.setA result.1).setFlags (accRotateFlags result.2)).took 1

/-- DAA (R214). -/
def decimalAdjust (s : State) : State :=
  let result := daa s.cpu.a s.flags
  ((s.setA result.1).setFlags result.2).took 1

/-- CPL (R215). -/
def complementA (s : State) : State :=
  ((s.setA (~~~ s.cpu.a)).setFlags { s.flags with n := true, h := true }).took 1

/-- SCF (R216). -/
def setCarry (s : State) : State := (s.setFlags { s.flags with n := false, h := false, c := true }).took 1

/-- CCF (R217). -/
def complementCarry (s : State) : State :=
  (s.setFlags { s.flags with n := false, h := false, c := !s.flags.c }).took 1

/-- RLCA (R210). -/
def execRlca (s : State) : Host.Outcome State Fault Refusal := .next (accRotate .rlc s)

/-- RRCA (R211). -/
def execRrca (s : State) : Host.Outcome State Fault Refusal := .next (accRotate .rrc s)

/-- RLA (R212). -/
def execRla (s : State) : Host.Outcome State Fault Refusal := .next (accRotate .rl s)

/-- RRA (R213). -/
def execRra (s : State) : Host.Outcome State Fault Refusal := .next (accRotate .rr s)

/-- DAA (R214). -/
def execDaa (s : State) : Host.Outcome State Fault Refusal := .next (decimalAdjust s)

/-- CPL (R215). -/
def execCpl (s : State) : Host.Outcome State Fault Refusal := .next (complementA s)

/-- SCF (R216). -/
def execScf (s : State) : Host.Outcome State Fault Refusal := .next (setCarry s)

/-- CCF (R217). -/
def execCcf (s : State) : Host.Outcome State Fault Refusal := .next (complementCarry s)

end Sys2Proof.Machine
end

