-- ==== Sys2Proof/Machine/Alu16.lean ====
section
/-! DEFINITION. 16-bit arithmetic (43_alu_16bit.md). -/

namespace Sys2Proof.Machine

/-- ADD HL,rr (R200). -/
def addHlPair (r : R16) (s : State) : State :=
  ((s.setHl (s.hl + s.getR16 r)).setFlags (addHlFlags s.hl (s.getR16 r) s.flags)).took 2

/-- INC rr (R201). -/
def incPair (r : R16) (s : State) : State := (s.setR16 r (s.getR16 r + 1)).took 2

/-- DEC rr (R202). -/
def decPair (r : R16) (s : State) : State := (s.setR16 r (s.getR16 r - 1)).took 2

/-- ADD SP,e8 (R203). -/
def addSpOffset (e : Byte) (s : State) : State :=
  ((s.setSp (s.cpu.sp + sext16 e)).setFlags (spOffsetFlags s.cpu.sp e)).took 4

/-- INC BC (R201). -/
def execIncBc (s : State) : Host.Outcome State Fault Refusal := .next (incPair .BC s)

/-- ADD HL,BC (R200). -/
def execAddHlBc (s : State) : Host.Outcome State Fault Refusal := .next (addHlPair .BC s)

/-- DEC BC (R202). -/
def execDecBc (s : State) : Host.Outcome State Fault Refusal := .next (decPair .BC s)

/-- INC DE (R201). -/
def execIncDe (s : State) : Host.Outcome State Fault Refusal := .next (incPair .DE s)

/-- ADD HL,DE (R200). -/
def execAddHlDe (s : State) : Host.Outcome State Fault Refusal := .next (addHlPair .DE s)

/-- DEC DE (R202). -/
def execDecDe (s : State) : Host.Outcome State Fault Refusal := .next (decPair .DE s)

/-- INC HL (R201). -/
def execIncHl (s : State) : Host.Outcome State Fault Refusal := .next (incPair .HL s)

/-- ADD HL,HL (R200). -/
def execAddHlHl (s : State) : Host.Outcome State Fault Refusal := .next (addHlPair .HL s)

/-- DEC HL (R202). -/
def execDecHl (s : State) : Host.Outcome State Fault Refusal := .next (decPair .HL s)

/-- INC SP (R201). -/
def execIncSp (s : State) : Host.Outcome State Fault Refusal := .next (incPair .SP s)

/-- ADD HL,SP (R200). -/
def execAddHlSp (s : State) : Host.Outcome State Fault Refusal := .next (addHlPair .SP s)

/-- DEC SP (R202). -/
def execDecSp (s : State) : Host.Outcome State Fault Refusal := .next (decPair .SP s)

/-- ADD SP,e8 (R203). -/
def execAddSpE8 (e : Byte) (s : State) : Host.Outcome State Fault Refusal := .next (addSpOffset e s)

end Sys2Proof.Machine
end

