-- ==== Sys2Proof/Machine/Alu8.lean ====
section
/-! DEFINITION. 8-bit arithmetic and logic (42_alu_8bit.md). -/

namespace Sys2Proof.Machine

/-- ADD, ADC, SUB, SBC, AND, XOR, OR, CP on A, in each operand form (R171 to R179). -/
def alu (op : AluOp) (x : Source) (s : State) : State :=
  let result := aluApply op s.cpu.a (getSource s x) s.flags.c
  ((s.setA result.1).setFlags result.2).took (sourceCost x)

/-- INC r (R180) and INC (HL) (R181). -/
def incLoc (l : Loc) (s : State) : State :=
  let result := inc8 (getLoc s l) s.flags
  ((putLoc s l result.1).setFlags result.2).took (locCost l 1 3)

/-- DEC r (R182) and DEC (HL) (R183). -/
def decLoc (l : Loc) (s : State) : State :=
  let result := dec8 (getLoc s l) s.flags
  ((putLoc s l result.1).setFlags result.2).took (locCost l 1 3)

/-- INC B (R180). -/
def execIncB (s : State) : Host.Outcome State Fault Refusal := .next (incLoc (.reg .B) s)

/-- DEC B (R182). -/
def execDecB (s : State) : Host.Outcome State Fault Refusal := .next (decLoc (.reg .B) s)

/-- INC C (R180). -/
def execIncC (s : State) : Host.Outcome State Fault Refusal := .next (incLoc (.reg .C) s)

/-- DEC C (R182). -/
def execDecC (s : State) : Host.Outcome State Fault Refusal := .next (decLoc (.reg .C) s)

/-- INC D (R180). -/
def execIncD (s : State) : Host.Outcome State Fault Refusal := .next (incLoc (.reg .D) s)

/-- DEC D (R182). -/
def execDecD (s : State) : Host.Outcome State Fault Refusal := .next (decLoc (.reg .D) s)

/-- INC E (R180). -/
def execIncE (s : State) : Host.Outcome State Fault Refusal := .next (incLoc (.reg .E) s)

/-- DEC E (R182). -/
def execDecE (s : State) : Host.Outcome State Fault Refusal := .next (decLoc (.reg .E) s)

/-- INC H (R180). -/
def execIncH (s : State) : Host.Outcome State Fault Refusal := .next (incLoc (.reg .H) s)

/-- DEC H (R182). -/
def execDecH (s : State) : Host.Outcome State Fault Refusal := .next (decLoc (.reg .H) s)

/-- INC L (R180). -/
def execIncL (s : State) : Host.Outcome State Fault Refusal := .next (incLoc (.reg .L) s)

/-- DEC L (R182). -/
def execDecL (s : State) : Host.Outcome State Fault Refusal := .next (decLoc (.reg .L) s)

/-- INC (HL) (R181). -/
def execIncMemHl (s : State) : Host.Outcome State Fault Refusal := .next (incLoc .memHl s)

/-- DEC (HL) (R183). -/
def execDecMemHl (s : State) : Host.Outcome State Fault Refusal := .next (decLoc .memHl s)

/-- INC A (R180). -/
def execIncA (s : State) : Host.Outcome State Fault Refusal := .next (incLoc (.reg .A) s)

/-- DEC A (R182). -/
def execDecA (s : State) : Host.Outcome State Fault Refusal := .next (decLoc (.reg .A) s)

/-- ADD A,B (R172). -/
def execAddAB (s : State) : Host.Outcome State Fault Refusal := .next (alu .add (.loc (.reg .B)) s)

/-- ADD A,C (R172). -/
def execAddAC (s : State) : Host.Outcome State Fault Refusal := .next (alu .add (.loc (.reg .C)) s)

/-- ADD A,D (R172). -/
def execAddAD (s : State) : Host.Outcome State Fault Refusal := .next (alu .add (.loc (.reg .D)) s)

/-- ADD A,E (R172). -/
def execAddAE (s : State) : Host.Outcome State Fault Refusal := .next (alu .add (.loc (.reg .E)) s)

/-- ADD A,H (R172). -/
def execAddAH (s : State) : Host.Outcome State Fault Refusal := .next (alu .add (.loc (.reg .H)) s)

/-- ADD A,L (R172). -/
def execAddAL (s : State) : Host.Outcome State Fault Refusal := .next (alu .add (.loc (.reg .L)) s)

/-- ADD A,(HL) (R172). -/
def execAddAMemHl (s : State) : Host.Outcome State Fault Refusal := .next (alu .add (.loc .memHl) s)

/-- ADD A,A (R172). -/
def execAddAA (s : State) : Host.Outcome State Fault Refusal := .next (alu .add (.loc (.reg .A)) s)

/-- ADC A,B (R173). -/
def execAdcAB (s : State) : Host.Outcome State Fault Refusal := .next (alu .adc (.loc (.reg .B)) s)

/-- ADC A,C (R173). -/
def execAdcAC (s : State) : Host.Outcome State Fault Refusal := .next (alu .adc (.loc (.reg .C)) s)

/-- ADC A,D (R173). -/
def execAdcAD (s : State) : Host.Outcome State Fault Refusal := .next (alu .adc (.loc (.reg .D)) s)

/-- ADC A,E (R173). -/
def execAdcAE (s : State) : Host.Outcome State Fault Refusal := .next (alu .adc (.loc (.reg .E)) s)

/-- ADC A,H (R173). -/
def execAdcAH (s : State) : Host.Outcome State Fault Refusal := .next (alu .adc (.loc (.reg .H)) s)

/-- ADC A,L (R173). -/
def execAdcAL (s : State) : Host.Outcome State Fault Refusal := .next (alu .adc (.loc (.reg .L)) s)

/-- ADC A,(HL) (R173). -/
def execAdcAMemHl (s : State) : Host.Outcome State Fault Refusal := .next (alu .adc (.loc .memHl) s)

/-- ADC A,A (R173). -/
def execAdcAA (s : State) : Host.Outcome State Fault Refusal := .next (alu .adc (.loc (.reg .A)) s)

/-- SUB B (R174). -/
def execSubB (s : State) : Host.Outcome State Fault Refusal := .next (alu .sub (.loc (.reg .B)) s)

/-- SUB C (R174). -/
def execSubC (s : State) : Host.Outcome State Fault Refusal := .next (alu .sub (.loc (.reg .C)) s)

/-- SUB D (R174). -/
def execSubD (s : State) : Host.Outcome State Fault Refusal := .next (alu .sub (.loc (.reg .D)) s)

/-- SUB E (R174). -/
def execSubE (s : State) : Host.Outcome State Fault Refusal := .next (alu .sub (.loc (.reg .E)) s)

/-- SUB H (R174). -/
def execSubH (s : State) : Host.Outcome State Fault Refusal := .next (alu .sub (.loc (.reg .H)) s)

/-- SUB L (R174). -/
def execSubL (s : State) : Host.Outcome State Fault Refusal := .next (alu .sub (.loc (.reg .L)) s)

/-- SUB (HL) (R174). -/
def execSubMemHl (s : State) : Host.Outcome State Fault Refusal := .next (alu .sub (.loc .memHl) s)

/-- SUB A (R174). -/
def execSubA (s : State) : Host.Outcome State Fault Refusal := .next (alu .sub (.loc (.reg .A)) s)

/-- SBC A,B (R175). -/
def execSbcAB (s : State) : Host.Outcome State Fault Refusal := .next (alu .sbc (.loc (.reg .B)) s)

/-- SBC A,C (R175). -/
def execSbcAC (s : State) : Host.Outcome State Fault Refusal := .next (alu .sbc (.loc (.reg .C)) s)

/-- SBC A,D (R175). -/
def execSbcAD (s : State) : Host.Outcome State Fault Refusal := .next (alu .sbc (.loc (.reg .D)) s)

/-- SBC A,E (R175). -/
def execSbcAE (s : State) : Host.Outcome State Fault Refusal := .next (alu .sbc (.loc (.reg .E)) s)

/-- SBC A,H (R175). -/
def execSbcAH (s : State) : Host.Outcome State Fault Refusal := .next (alu .sbc (.loc (.reg .H)) s)

/-- SBC A,L (R175). -/
def execSbcAL (s : State) : Host.Outcome State Fault Refusal := .next (alu .sbc (.loc (.reg .L)) s)

/-- SBC A,(HL) (R175). -/
def execSbcAMemHl (s : State) : Host.Outcome State Fault Refusal := .next (alu .sbc (.loc .memHl) s)

/-- SBC A,A (R175). -/
def execSbcAA (s : State) : Host.Outcome State Fault Refusal := .next (alu .sbc (.loc (.reg .A)) s)

/-- AND B (R176). -/
def execAndB (s : State) : Host.Outcome State Fault Refusal := .next (alu .and (.loc (.reg .B)) s)

/-- AND C (R176). -/
def execAndC (s : State) : Host.Outcome State Fault Refusal := .next (alu .and (.loc (.reg .C)) s)

/-- AND D (R176). -/
def execAndD (s : State) : Host.Outcome State Fault Refusal := .next (alu .and (.loc (.reg .D)) s)

/-- AND E (R176). -/
def execAndE (s : State) : Host.Outcome State Fault Refusal := .next (alu .and (.loc (.reg .E)) s)

/-- AND H (R176). -/
def execAndH (s : State) : Host.Outcome State Fault Refusal := .next (alu .and (.loc (.reg .H)) s)

/-- AND L (R176). -/
def execAndL (s : State) : Host.Outcome State Fault Refusal := .next (alu .and (.loc (.reg .L)) s)

/-- AND (HL) (R176). -/
def execAndMemHl (s : State) : Host.Outcome State Fault Refusal := .next (alu .and (.loc .memHl) s)

/-- AND A (R176). -/
def execAndA (s : State) : Host.Outcome State Fault Refusal := .next (alu .and (.loc (.reg .A)) s)

/-- XOR B (R177). -/
def execXorB (s : State) : Host.Outcome State Fault Refusal := .next (alu .xor (.loc (.reg .B)) s)

/-- XOR C (R177). -/
def execXorC (s : State) : Host.Outcome State Fault Refusal := .next (alu .xor (.loc (.reg .C)) s)

/-- XOR D (R177). -/
def execXorD (s : State) : Host.Outcome State Fault Refusal := .next (alu .xor (.loc (.reg .D)) s)

/-- XOR E (R177). -/
def execXorE (s : State) : Host.Outcome State Fault Refusal := .next (alu .xor (.loc (.reg .E)) s)

/-- XOR H (R177). -/
def execXorH (s : State) : Host.Outcome State Fault Refusal := .next (alu .xor (.loc (.reg .H)) s)

/-- XOR L (R177). -/
def execXorL (s : State) : Host.Outcome State Fault Refusal := .next (alu .xor (.loc (.reg .L)) s)

/-- XOR (HL) (R177). -/
def execXorMemHl (s : State) : Host.Outcome State Fault Refusal := .next (alu .xor (.loc .memHl) s)

/-- XOR A (R177). -/
def execXorA (s : State) : Host.Outcome State Fault Refusal := .next (alu .xor (.loc (.reg .A)) s)

/-- OR B (R178). -/
def execOrB (s : State) : Host.Outcome State Fault Refusal := .next (alu .or (.loc (.reg .B)) s)

/-- OR C (R178). -/
def execOrC (s : State) : Host.Outcome State Fault Refusal := .next (alu .or (.loc (.reg .C)) s)

/-- OR D (R178). -/
def execOrD (s : State) : Host.Outcome State Fault Refusal := .next (alu .or (.loc (.reg .D)) s)

/-- OR E (R178). -/
def execOrE (s : State) : Host.Outcome State Fault Refusal := .next (alu .or (.loc (.reg .E)) s)

/-- OR H (R178). -/
def execOrH (s : State) : Host.Outcome State Fault Refusal := .next (alu .or (.loc (.reg .H)) s)

/-- OR L (R178). -/
def execOrL (s : State) : Host.Outcome State Fault Refusal := .next (alu .or (.loc (.reg .L)) s)

/-- OR (HL) (R178). -/
def execOrMemHl (s : State) : Host.Outcome State Fault Refusal := .next (alu .or (.loc .memHl) s)

/-- OR A (R178). -/
def execOrA (s : State) : Host.Outcome State Fault Refusal := .next (alu .or (.loc (.reg .A)) s)

/-- CP B (R179). -/
def execCpB (s : State) : Host.Outcome State Fault Refusal := .next (alu .cp (.loc (.reg .B)) s)

/-- CP C (R179). -/
def execCpC (s : State) : Host.Outcome State Fault Refusal := .next (alu .cp (.loc (.reg .C)) s)

/-- CP D (R179). -/
def execCpD (s : State) : Host.Outcome State Fault Refusal := .next (alu .cp (.loc (.reg .D)) s)

/-- CP E (R179). -/
def execCpE (s : State) : Host.Outcome State Fault Refusal := .next (alu .cp (.loc (.reg .E)) s)

/-- CP H (R179). -/
def execCpH (s : State) : Host.Outcome State Fault Refusal := .next (alu .cp (.loc (.reg .H)) s)

/-- CP L (R179). -/
def execCpL (s : State) : Host.Outcome State Fault Refusal := .next (alu .cp (.loc (.reg .L)) s)

/-- CP (HL) (R179). -/
def execCpMemHl (s : State) : Host.Outcome State Fault Refusal := .next (alu .cp (.loc .memHl) s)

/-- CP A (R179). -/
def execCpA (s : State) : Host.Outcome State Fault Refusal := .next (alu .cp (.loc (.reg .A)) s)

/-- ADD A,d8 (R172). -/
def execAddAD8 (v : Byte) (s : State) : Host.Outcome State Fault Refusal := .next (alu .add (.imm v) s)

/-- ADC A,d8 (R173). -/
def execAdcAD8 (v : Byte) (s : State) : Host.Outcome State Fault Refusal := .next (alu .adc (.imm v) s)

/-- SUB d8 (R174). -/
def execSubD8 (v : Byte) (s : State) : Host.Outcome State Fault Refusal := .next (alu .sub (.imm v) s)

/-- SBC A,d8 (R175). -/
def execSbcAD8 (v : Byte) (s : State) : Host.Outcome State Fault Refusal := .next (alu .sbc (.imm v) s)

/-- AND d8 (R176). -/
def execAndD8 (v : Byte) (s : State) : Host.Outcome State Fault Refusal := .next (alu .and (.imm v) s)

/-- XOR d8 (R177). -/
def execXorD8 (v : Byte) (s : State) : Host.Outcome State Fault Refusal := .next (alu .xor (.imm v) s)

/-- OR d8 (R178). -/
def execOrD8 (v : Byte) (s : State) : Host.Outcome State Fault Refusal := .next (alu .or (.imm v) s)

/-- CP d8 (R179). -/
def execCpD8 (v : Byte) (s : State) : Host.Outcome State Fault Refusal := .next (alu .cp (.imm v) s)

end Sys2Proof.Machine
end

