-- ==== Sys2Proof/Machine/CbRotate.lean ====
section
/-! DEFINITION. CB-prefixed rotates, shifts and SWAP (46_cb_prefixed.md R240 to R248). -/

namespace Sys2Proof.Machine

/-- RLC, RRC, RL, RR, SLA, SRA, SWAP, SRL on a register or (HL) (R241 to R248). -/
def shiftLoc (op : ShiftOp) (l : Loc) (s : State) : State :=
  let result := shiftApply op (getLoc s l) s.flags.c
  ((putLoc s l result.1).setFlags (shiftFlags result.1 result.2)).took (locCost l 2 4)

/-- RLC B (R241). -/
def execRlcB (s : State) : Host.Outcome State Fault Refusal := .next (shiftLoc .rlc (.reg .B) s)

/-- RLC C (R241). -/
def execRlcC (s : State) : Host.Outcome State Fault Refusal := .next (shiftLoc .rlc (.reg .C) s)

/-- RLC D (R241). -/
def execRlcD (s : State) : Host.Outcome State Fault Refusal := .next (shiftLoc .rlc (.reg .D) s)

/-- RLC E (R241). -/
def execRlcE (s : State) : Host.Outcome State Fault Refusal := .next (shiftLoc .rlc (.reg .E) s)

/-- RLC H (R241). -/
def execRlcH (s : State) : Host.Outcome State Fault Refusal := .next (shiftLoc .rlc (.reg .H) s)

/-- RLC L (R241). -/
def execRlcL (s : State) : Host.Outcome State Fault Refusal := .next (shiftLoc .rlc (.reg .L) s)

/-- RLC (HL) (R241). -/
def execRlcMemHl (s : State) : Host.Outcome State Fault Refusal := .next (shiftLoc .rlc .memHl s)

/-- RLC A (R241). -/
def execRlcA (s : State) : Host.Outcome State Fault Refusal := .next (shiftLoc .rlc (.reg .A) s)

/-- RRC B (R242). -/
def execRrcB (s : State) : Host.Outcome State Fault Refusal := .next (shiftLoc .rrc (.reg .B) s)

/-- RRC C (R242). -/
def execRrcC (s : State) : Host.Outcome State Fault Refusal := .next (shiftLoc .rrc (.reg .C) s)

/-- RRC D (R242). -/
def execRrcD (s : State) : Host.Outcome State Fault Refusal := .next (shiftLoc .rrc (.reg .D) s)

/-- RRC E (R242). -/
def execRrcE (s : State) : Host.Outcome State Fault Refusal := .next (shiftLoc .rrc (.reg .E) s)

/-- RRC H (R242). -/
def execRrcH (s : State) : Host.Outcome State Fault Refusal := .next (shiftLoc .rrc (.reg .H) s)

/-- RRC L (R242). -/
def execRrcL (s : State) : Host.Outcome State Fault Refusal := .next (shiftLoc .rrc (.reg .L) s)

/-- RRC (HL) (R242). -/
def execRrcMemHl (s : State) : Host.Outcome State Fault Refusal := .next (shiftLoc .rrc .memHl s)

/-- RRC A (R242). -/
def execRrcA (s : State) : Host.Outcome State Fault Refusal := .next (shiftLoc .rrc (.reg .A) s)

/-- RL B (R243). -/
def execRlB (s : State) : Host.Outcome State Fault Refusal := .next (shiftLoc .rl (.reg .B) s)

/-- RL C (R243). -/
def execRlC (s : State) : Host.Outcome State Fault Refusal := .next (shiftLoc .rl (.reg .C) s)

/-- RL D (R243). -/
def execRlD (s : State) : Host.Outcome State Fault Refusal := .next (shiftLoc .rl (.reg .D) s)

/-- RL E (R243). -/
def execRlE (s : State) : Host.Outcome State Fault Refusal := .next (shiftLoc .rl (.reg .E) s)

/-- RL H (R243). -/
def execRlH (s : State) : Host.Outcome State Fault Refusal := .next (shiftLoc .rl (.reg .H) s)

/-- RL L (R243). -/
def execRlL (s : State) : Host.Outcome State Fault Refusal := .next (shiftLoc .rl (.reg .L) s)

/-- RL (HL) (R243). -/
def execRlMemHl (s : State) : Host.Outcome State Fault Refusal := .next (shiftLoc .rl .memHl s)

/-- RL A (R243). -/
def execRlA (s : State) : Host.Outcome State Fault Refusal := .next (shiftLoc .rl (.reg .A) s)

/-- RR B (R244). -/
def execRrB (s : State) : Host.Outcome State Fault Refusal := .next (shiftLoc .rr (.reg .B) s)

/-- RR C (R244). -/
def execRrC (s : State) : Host.Outcome State Fault Refusal := .next (shiftLoc .rr (.reg .C) s)

/-- RR D (R244). -/
def execRrD (s : State) : Host.Outcome State Fault Refusal := .next (shiftLoc .rr (.reg .D) s)

/-- RR E (R244). -/
def execRrE (s : State) : Host.Outcome State Fault Refusal := .next (shiftLoc .rr (.reg .E) s)

/-- RR H (R244). -/
def execRrH (s : State) : Host.Outcome State Fault Refusal := .next (shiftLoc .rr (.reg .H) s)

/-- RR L (R244). -/
def execRrL (s : State) : Host.Outcome State Fault Refusal := .next (shiftLoc .rr (.reg .L) s)

/-- RR (HL) (R244). -/
def execRrMemHl (s : State) : Host.Outcome State Fault Refusal := .next (shiftLoc .rr .memHl s)

/-- RR A (R244). -/
def execRrA (s : State) : Host.Outcome State Fault Refusal := .next (shiftLoc .rr (.reg .A) s)

/-- SLA B (R245). -/
def execSlaB (s : State) : Host.Outcome State Fault Refusal := .next (shiftLoc .sla (.reg .B) s)

/-- SLA C (R245). -/
def execSlaC (s : State) : Host.Outcome State Fault Refusal := .next (shiftLoc .sla (.reg .C) s)

/-- SLA D (R245). -/
def execSlaD (s : State) : Host.Outcome State Fault Refusal := .next (shiftLoc .sla (.reg .D) s)

/-- SLA E (R245). -/
def execSlaE (s : State) : Host.Outcome State Fault Refusal := .next (shiftLoc .sla (.reg .E) s)

/-- SLA H (R245). -/
def execSlaH (s : State) : Host.Outcome State Fault Refusal := .next (shiftLoc .sla (.reg .H) s)

/-- SLA L (R245). -/
def execSlaL (s : State) : Host.Outcome State Fault Refusal := .next (shiftLoc .sla (.reg .L) s)

/-- SLA (HL) (R245). -/
def execSlaMemHl (s : State) : Host.Outcome State Fault Refusal := .next (shiftLoc .sla .memHl s)

/-- SLA A (R245). -/
def execSlaA (s : State) : Host.Outcome State Fault Refusal := .next (shiftLoc .sla (.reg .A) s)

/-- SRA B (R246). -/
def execSraB (s : State) : Host.Outcome State Fault Refusal := .next (shiftLoc .sra (.reg .B) s)

/-- SRA C (R246). -/
def execSraC (s : State) : Host.Outcome State Fault Refusal := .next (shiftLoc .sra (.reg .C) s)

/-- SRA D (R246). -/
def execSraD (s : State) : Host.Outcome State Fault Refusal := .next (shiftLoc .sra (.reg .D) s)

/-- SRA E (R246). -/
def execSraE (s : State) : Host.Outcome State Fault Refusal := .next (shiftLoc .sra (.reg .E) s)

/-- SRA H (R246). -/
def execSraH (s : State) : Host.Outcome State Fault Refusal := .next (shiftLoc .sra (.reg .H) s)

/-- SRA L (R246). -/
def execSraL (s : State) : Host.Outcome State Fault Refusal := .next (shiftLoc .sra (.reg .L) s)

/-- SRA (HL) (R246). -/
def execSraMemHl (s : State) : Host.Outcome State Fault Refusal := .next (shiftLoc .sra .memHl s)

/-- SRA A (R246). -/
def execSraA (s : State) : Host.Outcome State Fault Refusal := .next (shiftLoc .sra (.reg .A) s)

/-- SWAP B (R247). -/
def execSwapB (s : State) : Host.Outcome State Fault Refusal := .next (shiftLoc .swap (.reg .B) s)

/-- SWAP C (R247). -/
def execSwapC (s : State) : Host.Outcome State Fault Refusal := .next (shiftLoc .swap (.reg .C) s)

/-- SWAP D (R247). -/
def execSwapD (s : State) : Host.Outcome State Fault Refusal := .next (shiftLoc .swap (.reg .D) s)

/-- SWAP E (R247). -/
def execSwapE (s : State) : Host.Outcome State Fault Refusal := .next (shiftLoc .swap (.reg .E) s)

/-- SWAP H (R247). -/
def execSwapH (s : State) : Host.Outcome State Fault Refusal := .next (shiftLoc .swap (.reg .H) s)

/-- SWAP L (R247). -/
def execSwapL (s : State) : Host.Outcome State Fault Refusal := .next (shiftLoc .swap (.reg .L) s)

/-- SWAP (HL) (R247). -/
def execSwapMemHl (s : State) : Host.Outcome State Fault Refusal := .next (shiftLoc .swap .memHl s)

/-- SWAP A (R247). -/
def execSwapA (s : State) : Host.Outcome State Fault Refusal := .next (shiftLoc .swap (.reg .A) s)

/-- SRL B (R248). -/
def execSrlB (s : State) : Host.Outcome State Fault Refusal := .next (shiftLoc .srl (.reg .B) s)

/-- SRL C (R248). -/
def execSrlC (s : State) : Host.Outcome State Fault Refusal := .next (shiftLoc .srl (.reg .C) s)

/-- SRL D (R248). -/
def execSrlD (s : State) : Host.Outcome State Fault Refusal := .next (shiftLoc .srl (.reg .D) s)

/-- SRL E (R248). -/
def execSrlE (s : State) : Host.Outcome State Fault Refusal := .next (shiftLoc .srl (.reg .E) s)

/-- SRL H (R248). -/
def execSrlH (s : State) : Host.Outcome State Fault Refusal := .next (shiftLoc .srl (.reg .H) s)

/-- SRL L (R248). -/
def execSrlL (s : State) : Host.Outcome State Fault Refusal := .next (shiftLoc .srl (.reg .L) s)

/-- SRL (HL) (R248). -/
def execSrlMemHl (s : State) : Host.Outcome State Fault Refusal := .next (shiftLoc .srl .memHl s)

/-- SRL A (R248). -/
def execSrlA (s : State) : Host.Outcome State Fault Refusal := .next (shiftLoc .srl (.reg .A) s)

end Sys2Proof.Machine
end

