-- ==== Sys2Proof/Machine/CbBit.lean ====
section
/-! DEFINITION. CB-prefixed BIT, RES and SET (46_cb_prefixed.md R249 to R251), and the prefix itself (47_system.md R266). -/

namespace Sys2Proof.Machine

/-- `1 << b`. -/
def bitMask (b : BitVec 3) : Byte := 1 <<< b.toNat

/-- BIT b,x (R249): C is unchanged, nothing is written back. -/
def testBit (b : BitVec 3) (l : Loc) (s : State) : State :=
  (s.setFlags { z := !bit (getLoc s l) b.toNat, n := false, h := true, c := s.flags.c }).took (locCost l 2 3)

/-- RES b,x (R250). -/
def clearBit (b : BitVec 3) (l : Loc) (s : State) : State :=
  (putLoc s l (getLoc s l &&& ~~~ bitMask b)).took (locCost l 2 4)

/-- SET b,x (R251). -/
def raiseBit (b : BitVec 3) (l : Loc) (s : State) : State :=
  (putLoc s l (getLoc s l ||| bitMask b)).took (locCost l 2 4)

/-- "cb <- Fetch8() and run the rule of cb" (60_exceptions.md R301, 30_encoding.md R95, R96): what the prefix byte 0xCB does
with the byte after it. -/
def runSecondary (cb : Byte) (s : State) : State :=
  let l := locOfField (cb.extractLsb' 0 3)
  let b := cb.extractLsb' 3 3
  match (cb.extractLsb' 6 2).toNat with
  | 0 => shiftLoc (shiftOfField b) l s
  | 1 => testBit b l s
  | 2 => clearBit b l s
  | _ => raiseBit b l s

/-- PREFIX CB (R266). -/
def execPrefixCb (cb : Byte) (s : State) : Host.Outcome State Fault Refusal := .next (runSecondary cb s)

/-- BIT b,B (R249). -/
def execBitB (b : BitVec 3) (s : State) : Host.Outcome State Fault Refusal := .next (testBit b (.reg .B) s)

/-- BIT b,C (R249). -/
def execBitC (b : BitVec 3) (s : State) : Host.Outcome State Fault Refusal := .next (testBit b (.reg .C) s)

/-- BIT b,D (R249). -/
def execBitD (b : BitVec 3) (s : State) : Host.Outcome State Fault Refusal := .next (testBit b (.reg .D) s)

/-- BIT b,E (R249). -/
def execBitE (b : BitVec 3) (s : State) : Host.Outcome State Fault Refusal := .next (testBit b (.reg .E) s)

/-- BIT b,H (R249). -/
def execBitH (b : BitVec 3) (s : State) : Host.Outcome State Fault Refusal := .next (testBit b (.reg .H) s)

/-- BIT b,L (R249). -/
def execBitL (b : BitVec 3) (s : State) : Host.Outcome State Fault Refusal := .next (testBit b (.reg .L) s)

/-- BIT b,(HL) (R249). -/
def execBitMemHl (b : BitVec 3) (s : State) : Host.Outcome State Fault Refusal := .next (testBit b .memHl s)

/-- BIT b,A (R249). -/
def execBitA (b : BitVec 3) (s : State) : Host.Outcome State Fault Refusal := .next (testBit b (.reg .A) s)

/-- RES b,B (R250). -/
def execResB (b : BitVec 3) (s : State) : Host.Outcome State Fault Refusal := .next (clearBit b (.reg .B) s)

/-- RES b,C (R250). -/
def execResC (b : BitVec 3) (s : State) : Host.Outcome State Fault Refusal := .next (clearBit b (.reg .C) s)

/-- RES b,D (R250). -/
def execResD (b : BitVec 3) (s : State) : Host.Outcome State Fault Refusal := .next (clearBit b (.reg .D) s)

/-- RES b,E (R250). -/
def execResE (b : BitVec 3) (s : State) : Host.Outcome State Fault Refusal := .next (clearBit b (.reg .E) s)

/-- RES b,H (R250). -/
def execResH (b : BitVec 3) (s : State) : Host.Outcome State Fault Refusal := .next (clearBit b (.reg .H) s)

/-- RES b,L (R250). -/
def execResL (b : BitVec 3) (s : State) : Host.Outcome State Fault Refusal := .next (clearBit b (.reg .L) s)

/-- RES b,(HL) (R250). -/
def execResMemHl (b : BitVec 3) (s : State) : Host.Outcome State Fault Refusal := .next (clearBit b .memHl s)

/-- RES b,A (R250). -/
def execResA (b : BitVec 3) (s : State) : Host.Outcome State Fault Refusal := .next (clearBit b (.reg .A) s)

/-- SET b,B (R251). -/
def execSetB (b : BitVec 3) (s : State) : Host.Outcome State Fault Refusal := .next (raiseBit b (.reg .B) s)

/-- SET b,C (R251). -/
def execSetC (b : BitVec 3) (s : State) : Host.Outcome State Fault Refusal := .next (raiseBit b (.reg .C) s)

/-- SET b,D (R251). -/
def execSetD (b : BitVec 3) (s : State) : Host.Outcome State Fault Refusal := .next (raiseBit b (.reg .D) s)

/-- SET b,E (R251). -/
def execSetE (b : BitVec 3) (s : State) : Host.Outcome State Fault Refusal := .next (raiseBit b (.reg .E) s)

/-- SET b,H (R251). -/
def execSetH (b : BitVec 3) (s : State) : Host.Outcome State Fault Refusal := .next (raiseBit b (.reg .H) s)

/-- SET b,L (R251). -/
def execSetL (b : BitVec 3) (s : State) : Host.Outcome State Fault Refusal := .next (raiseBit b (.reg .L) s)

/-- SET b,(HL) (R251). -/
def execSetMemHl (b : BitVec 3) (s : State) : Host.Outcome State Fault Refusal := .next (raiseBit b .memHl s)

/-- SET b,A (R251). -/
def execSetA (b : BitVec 3) (s : State) : Host.Outcome State Fault Refusal := .next (raiseBit b (.reg .A) s)

end Sys2Proof.Machine
end

