-- ==== Sys2Proof/Machine/Control.lean ====
section
/-! DEFINITION. Control transfer (45_control_transfer.md). PC is the address of the next instruction in memory. -/

namespace Sys2Proof.Machine

/-- JP a16 (R220). -/
def jump (a : Addr) (s : State) : State := (s.setPc a).took 4

/-- JP cc,a16 (R221). -/
def jumpIf (cc : Cond) (a : Addr) (s : State) : State := if s.holds cc then (s.setPc a).took 4 else s.took 3

/-- JP HL (R222). -/
def jumpHl (s : State) : State := (s.setPc s.hl).took 1

/-- The target of a relative jump (R223). -/
def relativeTarget (e : Byte) (s : State) : Addr := s.cpu.pc + sext16 e

/-- JR e8 (R223). -/
def jumpRel (e : Byte) (s : State) : State := (s.setPc (relativeTarget e s)).took 3

/-- JR cc,e8 (R224). -/
def jumpRelIf (cc : Cond) (e : Byte) (s : State) : State :=
  if s.holds cc then (s.setPc (relativeTarget e s)).took 3 else s.took 2

/-- Push the address of the next instruction and go to `a` (R225, R230). -/
def callTo (a : Addr) (s : State) : State := (push16 s.cpu.pc s).setPc a

/-- CALL a16 (R225). -/
def call (a : Addr) (s : State) : State := (callTo a s).took 6

/-- CALL cc,a16 (R226). -/
def callIf (cc : Cond) (a : Addr) (s : State) : State := if s.holds cc then (callTo a s).took 6 else s.took 3

/-- Pop PC (R227). -/
def popPc (s : State) : State := (dropWord s).setPc (popped s)

/-- RET (R227). -/
def ret (s : State) : State := (popPc s).took 4

/-- RET cc (R228). -/
def retIf (cc : Cond) (s : State) : State := if s.holds cc then (popPc s).took 5 else s.took 2

/-- RETI (R229). -/
def retInterrupt (s : State) : State := (returnFromInterrupt s).took 4

/-- RST t (R230): a call to `8 * t`. -/
def restart (t : BitVec 3) (s : State) : State := (callTo (8 * t.setWidth 16) s).took 4

/-- JR e8 (R223). -/
def execJrE8 (e : Byte) (s : State) : Host.Outcome State Fault Refusal := .next (jumpRel e s)

/-- JR NZ,e8 (R224). -/
def execJrNzE8 (e : Byte) (s : State) : Host.Outcome State Fault Refusal := .next (jumpRelIf .NZ e s)

/-- JR Z,e8 (R224). -/
def execJrZE8 (e : Byte) (s : State) : Host.Outcome State Fault Refusal := .next (jumpRelIf .Z e s)

/-- JR NC,e8 (R224). -/
def execJrNcE8 (e : Byte) (s : State) : Host.Outcome State Fault Refusal := .next (jumpRelIf .NC e s)

/-- JR C,e8 (R224). -/
def execJrCE8 (e : Byte) (s : State) : Host.Outcome State Fault Refusal := .next (jumpRelIf .C e s)

/-- RET NZ (R228). -/
def execRetNz (s : State) : Host.Outcome State Fault Refusal := .next (retIf .NZ s)

/-- JP NZ,a16 (R221). -/
def execJpNzA16 (a : Addr) (s : State) : Host.Outcome State Fault Refusal := .next (jumpIf .NZ a s)

/-- JP a16 (R220). -/
def execJpA16 (a : Addr) (s : State) : Host.Outcome State Fault Refusal := .next (jump a s)

/-- CALL NZ,a16 (R226). -/
def execCallNzA16 (a : Addr) (s : State) : Host.Outcome State Fault Refusal := .next (callIf .NZ a s)

/-- RST 00 (R230). -/
def execRst00 (s : State) : Host.Outcome State Fault Refusal := .next (restart 0 s)

/-- RET Z (R228). -/
def execRetZ (s : State) : Host.Outcome State Fault Refusal := .next (retIf .Z s)

/-- RET (R227). -/
def execRet (s : State) : Host.Outcome State Fault Refusal := .next (ret s)

/-- JP Z,a16 (R221). -/
def execJpZA16 (a : Addr) (s : State) : Host.Outcome State Fault Refusal := .next (jumpIf .Z a s)

/-- CALL Z,a16 (R226). -/
def execCallZA16 (a : Addr) (s : State) : Host.Outcome State Fault Refusal := .next (callIf .Z a s)

/-- CALL a16 (R225). -/
def execCallA16 (a : Addr) (s : State) : Host.Outcome State Fault Refusal := .next (call a s)

/-- RST 08 (R230). -/
def execRst08 (s : State) : Host.Outcome State Fault Refusal := .next (restart 1 s)

/-- RET NC (R228). -/
def execRetNc (s : State) : Host.Outcome State Fault Refusal := .next (retIf .NC s)

/-- JP NC,a16 (R221). -/
def execJpNcA16 (a : Addr) (s : State) : Host.Outcome State Fault Refusal := .next (jumpIf .NC a s)

/-- CALL NC,a16 (R226). -/
def execCallNcA16 (a : Addr) (s : State) : Host.Outcome State Fault Refusal := .next (callIf .NC a s)

/-- RST 10 (R230). -/
def execRst10 (s : State) : Host.Outcome State Fault Refusal := .next (restart 2 s)

/-- RET C (R228). -/
def execRetC (s : State) : Host.Outcome State Fault Refusal := .next (retIf .C s)

/-- RETI (R229). -/
def execReti (s : State) : Host.Outcome State Fault Refusal := .next (retInterrupt s)

/-- JP C,a16 (R221). -/
def execJpCA16 (a : Addr) (s : State) : Host.Outcome State Fault Refusal := .next (jumpIf .C a s)

/-- CALL C,a16 (R226). -/
def execCallCA16 (a : Addr) (s : State) : Host.Outcome State Fault Refusal := .next (callIf .C a s)

/-- RST 18 (R230). -/
def execRst18 (s : State) : Host.Outcome State Fault Refusal := .next (restart 3 s)

/-- RST 20 (R230). -/
def execRst20 (s : State) : Host.Outcome State Fault Refusal := .next (restart 4 s)

/-- JP HL (R222). -/
def execJpHl (s : State) : Host.Outcome State Fault Refusal := .next (jumpHl s)

/-- RST 28 (R230). -/
def execRst28 (s : State) : Host.Outcome State Fault Refusal := .next (restart 5 s)

/-- RST 30 (R230). -/
def execRst30 (s : State) : Host.Outcome State Fault Refusal := .next (restart 6 s)

/-- RST 38 (R230). -/
def execRst38 (s : State) : Host.Outcome State Fault Refusal := .next (restart 7 s)

end Sys2Proof.Machine
end

