-- ==== Sys2Proof/Machine/Loads16.lean ====
section
/-! DEFINITION. 16-bit loads and the stack instructions (41_loads_16bit_stack.md). -/

namespace Sys2Proof.Machine

/-- LD rr,d16 (R150). -/
def ldPairImm (r : R16) (v : Addr) (s : State) : State := (s.setR16 r v).took 3

/-- LD (a16),SP (R151). -/
def ldMemSp (a : Addr) (s : State) : State := (memWrite16 s a s.cpu.sp).took 5

/-- LD SP,HL (R152). -/
def ldSpFromHl (s : State) : State := (s.setSp s.hl).took 2

/-- LD HL,SP+e8 (R153). -/
def ldHlSpOffset (e : Byte) (s : State) : State :=
  ((s.setHl (s.cpu.sp + sext16 e)).setFlags (spOffsetFlags s.cpu.sp e)).took 3

/-- PUSH rr (R154). -/
def pushPair (r : R16Stk) (s : State) : State := (push16 (s.getR16Stk r) s).took 4

/-- POP rr (R155) and POP AF (R156). -/
def popPair (r : R16Stk) (s : State) : State := ((dropWord s).setR16Stk r (popped s)).took 3

/-- LD BC,d16 (R150). -/
def execLdBcD16 (v : Addr) (s : State) : Host.Outcome State Fault Refusal := .next (ldPairImm .BC v s)

/-- LD (a16),SP (R151). -/
def execLdMemA16Sp (a : Addr) (s : State) : Host.Outcome State Fault Refusal := .next (ldMemSp a s)

/-- LD DE,d16 (R150). -/
def execLdDeD16 (v : Addr) (s : State) : Host.Outcome State Fault Refusal := .next (ldPairImm .DE v s)

/-- LD HL,d16 (R150). -/
def execLdHlD16 (v : Addr) (s : State) : Host.Outcome State Fault Refusal := .next (ldPairImm .HL v s)

/-- LD SP,d16 (R150). -/
def execLdSpD16 (v : Addr) (s : State) : Host.Outcome State Fault Refusal := .next (ldPairImm .SP v s)

/-- POP BC (R155). -/
def execPopBc (s : State) : Host.Outcome State Fault Refusal := .next (popPair .BC s)

/-- PUSH BC (R154). -/
def execPushBc (s : State) : Host.Outcome State Fault Refusal := .next (pushPair .BC s)

/-- POP DE (R155). -/
def execPopDe (s : State) : Host.Outcome State Fault Refusal := .next (popPair .DE s)

/-- PUSH DE (R154). -/
def execPushDe (s : State) : Host.Outcome State Fault Refusal := .next (pushPair .DE s)

/-- POP HL (R155). -/
def execPopHl (s : State) : Host.Outcome State Fault Refusal := .next (popPair .HL s)

/-- PUSH HL (R154). -/
def execPushHl (s : State) : Host.Outcome State Fault Refusal := .next (pushPair .HL s)

/-- POP AF (R156). -/
def execPopAf (s : State) : Host.Outcome State Fault Refusal := .next (popPair .AF s)

/-- PUSH AF (R154). -/
def execPushAf (s : State) : Host.Outcome State Fault Refusal := .next (pushPair .AF s)

/-- LD HL,SP+e8 (R153). -/
def execLdHlSpE8 (e : Byte) (s : State) : Host.Outcome State Fault Refusal := .next (ldHlSpOffset e s)

/-- LD SP,HL (R152). -/
def execLdSpHl (s : State) : Host.Outcome State Fault Refusal := .next (ldSpFromHl s)

end Sys2Proof.Machine
end

