-- ==== Sys2Proof/Machine/Loads8.lean ====
section
/-! DEFINITION. 8-bit loads (40_loads_8bit.md). No flag changes; PC has passed the instruction's bytes. -/

namespace Sys2Proof.Machine

/-- LD r,r' (R121). -/
def ldRegReg (d r : R8) (s : State) : State := (s.setR8 d (s.getR8 r)).took 1

/-- LD r,d8 (R122). -/
def ldRegImm (d : R8) (v : Byte) (s : State) : State := (s.setR8 d v).took 2

/-- LD r,(HL) (R123). -/
def ldRegMem (d : R8) (s : State) : State := (s.setR8 d (busRead s s.hl)).took 2

/-- LD (HL),r (R124). -/
def ldMemReg (r : R8) (s : State) : State := (busWrite s s.hl (s.getR8 r)).took 2

/-- LD (HL),d8 (R125). -/
def ldMemImm (v : Byte) (s : State) : State := (busWrite s s.hl v).took 3

/-- A from memory (R126, R127, R130, R132, R134), in `n` M-cycles. -/
def loadA (addr : Addr) (n : Nat) (s : State) : State := (s.setA (busRead s addr)).took n

/-- A to memory (R128, R129, R131, R133, R135), in `n` M-cycles. -/
def storeA (addr : Addr) (n : Nat) (s : State) : State := (busWrite s addr s.cpu.a).took n

/-- A to memory at HL, then HL moves by `step` (R136, R137). -/
def storeAMoveHl (step : Addr) (s : State) : State :=
  let stored := busWrite s s.hl s.cpu.a
  (stored.setHl (stored.hl + step)).took 2

/-- A from memory at HL, then HL moves by `step` (R138, R139). -/
def loadAMoveHl (step : Addr) (s : State) : State :=
  let loaded := s.setA (busRead s s.hl)
  (loaded.setHl (loaded.hl + step)).took 2

/-- LD (BC),A (R128). -/
def execLdMemBcA (s : State) : Host.Outcome State Fault Refusal := .next (storeA s.bc 2 s)

/-- LD B,d8 (R122). -/
def execLdBD8 (v : Byte) (s : State) : Host.Outcome State Fault Refusal := .next (ldRegImm .B v s)

/-- LD A,(BC) (R126). -/
def execLdAMemBc (s : State) : Host.Outcome State Fault Refusal := .next (loadA s.bc 2 s)

/-- LD C,d8 (R122). -/
def execLdCD8 (v : Byte) (s : State) : Host.Outcome State Fault Refusal := .next (ldRegImm .C v s)

/-- LD (DE),A (R129). -/
def execLdMemDeA (s : State) : Host.Outcome State Fault Refusal := .next (storeA s.de 2 s)

/-- LD D,d8 (R122). -/
def execLdDD8 (v : Byte) (s : State) : Host.Outcome State Fault Refusal := .next (ldRegImm .D v s)

/-- LD A,(DE) (R127). -/
def execLdAMemDe (s : State) : Host.Outcome State Fault Refusal := .next (loadA s.de 2 s)

/-- LD E,d8 (R122). -/
def execLdED8 (v : Byte) (s : State) : Host.Outcome State Fault Refusal := .next (ldRegImm .E v s)

/-- LD (HL+),A (R136). -/
def execLdMemHlIncA (s : State) : Host.Outcome State Fault Refusal := .next (storeAMoveHl 1 s)

/-- LD H,d8 (R122). -/
def execLdHD8 (v : Byte) (s : State) : Host.Outcome State Fault Refusal := .next (ldRegImm .H v s)

/-- LD A,(HL+) (R138). -/
def execLdAMemHlInc (s : State) : Host.Outcome State Fault Refusal := .next (loadAMoveHl 1 s)

/-- LD L,d8 (R122). -/
def execLdLD8 (v : Byte) (s : State) : Host.Outcome State Fault Refusal := .next (ldRegImm .L v s)

/-- LD (HL-),A (R137). -/
def execLdMemHlDecA (s : State) : Host.Outcome State Fault Refusal := .next (storeAMoveHl (-1) s)

/-- LD (HL),d8 (R125). -/
def execLdMemHlD8 (v : Byte) (s : State) : Host.Outcome State Fault Refusal := .next (ldMemImm v s)

/-- LD A,(HL-) (R139). -/
def execLdAMemHlDec (s : State) : Host.Outcome State Fault Refusal := .next (loadAMoveHl (-1) s)

/-- LD A,d8 (R122). -/
def execLdAD8 (v : Byte) (s : State) : Host.Outcome State Fault Refusal := .next (ldRegImm .A v s)

/-- LD B,B (R121). -/
def execLdBB (s : State) : Host.Outcome State Fault Refusal := .next (ldRegReg .B .B s)

/-- LD B,C (R121). -/
def execLdBC (s : State) : Host.Outcome State Fault Refusal := .next (ldRegReg .B .C s)

/-- LD B,D (R121). -/
def execLdBD (s : State) : Host.Outcome State Fault Refusal := .next (ldRegReg .B .D s)

/-- LD B,E (R121). -/
def execLdBE (s : State) : Host.Outcome State Fault Refusal := .next (ldRegReg .B .E s)

/-- LD B,H (R121). -/
def execLdBH (s : State) : Host.Outcome State Fault Refusal := .next (ldRegReg .B .H s)

/-- LD B,L (R121). -/
def execLdBL (s : State) : Host.Outcome State Fault Refusal := .next (ldRegReg .B .L s)

/-- LD B,(HL) (R123). -/
def execLdBMemHl (s : State) : Host.Outcome State Fault Refusal := .next (ldRegMem .B s)

/-- LD B,A (R121). -/
def execLdBA (s : State) : Host.Outcome State Fault Refusal := .next (ldRegReg .B .A s)

/-- LD C,B (R121). -/
def execLdCB (s : State) : Host.Outcome State Fault Refusal := .next (ldRegReg .C .B s)

/-- LD C,C (R121). -/
def execLdCC (s : State) : Host.Outcome State Fault Refusal := .next (ldRegReg .C .C s)

/-- LD C,D (R121). -/
def execLdCD (s : State) : Host.Outcome State Fault Refusal := .next (ldRegReg .C .D s)

/-- LD C,E (R121). -/
def execLdCE (s : State) : Host.Outcome State Fault Refusal := .next (ldRegReg .C .E s)

/-- LD C,H (R121). -/
def execLdCH (s : State) : Host.Outcome State Fault Refusal := .next (ldRegReg .C .H s)

/-- LD C,L (R121). -/
def execLdCL (s : State) : Host.Outcome State Fault Refusal := .next (ldRegReg .C .L s)

/-- LD C,(HL) (R123). -/
def execLdCMemHl (s : State) : Host.Outcome State Fault Refusal := .next (ldRegMem .C s)

/-- LD C,A (R121). -/
def execLdCA (s : State) : Host.Outcome State Fault Refusal := .next (ldRegReg .C .A s)

/-- LD D,B (R121). -/
def execLdDB (s : State) : Host.Outcome State Fault Refusal := .next (ldRegReg .D .B s)

/-- LD D,C (R121). -/
def execLdDC (s : State) : Host.Outcome State Fault Refusal := .next (ldRegReg .D .C s)

/-- LD D,D (R121). -/
def execLdDD (s : State) : Host.Outcome State Fault Refusal := .next (ldRegReg .D .D s)

/-- LD D,E (R121). -/
def execLdDE (s : State) : Host.Outcome State Fault Refusal := .next (ldRegReg .D .E s)

/-- LD D,H (R121). -/
def execLdDH (s : State) : Host.Outcome State Fault Refusal := .next (ldRegReg .D .H s)

/-- LD D,L (R121). -/
def execLdDL (s : State) : Host.Outcome State Fault Refusal := .next (ldRegReg .D .L s)

/-- LD D,(HL) (R123). -/
def execLdDMemHl (s : State) : Host.Outcome State Fault Refusal := .next (ldRegMem .D s)

/-- LD D,A (R121). -/
def execLdDA (s : State) : Host.Outcome State Fault Refusal := .next (ldRegReg .D .A s)

/-- LD E,B (R121). -/
def execLdEB (s : State) : Host.Outcome State Fault Refusal := .next (ldRegReg .E .B s)

/-- LD E,C (R121). -/
def execLdEC (s : State) : Host.Outcome State Fault Refusal := .next (ldRegReg .E .C s)

/-- LD E,D (R121). -/
def execLdED (s : State) : Host.Outcome State Fault Refusal := .next (ldRegReg .E .D s)

/-- LD E,E (R121). -/
def execLdEE (s : State) : Host.Outcome State Fault Refusal := .next (ldRegReg .E .E s)

/-- LD E,H (R121). -/
def execLdEH (s : State) : Host.Outcome State Fault Refusal := .next (ldRegReg .E .H s)

/-- LD E,L (R121). -/
def execLdEL (s : State) : Host.Outcome State Fault Refusal := .next (ldRegReg .E .L s)

/-- LD E,(HL) (R123). -/
def execLdEMemHl (s : State) : Host.Outcome State Fault Refusal := .next (ldRegMem .E s)

/-- LD E,A (R121). -/
def execLdEA (s : State) : Host.Outcome State Fault Refusal := .next (ldRegReg .E .A s)

/-- LD H,B (R121). -/
def execLdHB (s : State) : Host.Outcome State Fault Refusal := .next (ldRegReg .H .B s)

/-- LD H,C (R121). -/
def execLdHC (s : State) : Host.Outcome State Fault Refusal := .next (ldRegReg .H .C s)

/-- LD H,D (R121). -/
def execLdHD (s : State) : Host.Outcome State Fault Refusal := .next (ldRegReg .H .D s)

/-- LD H,E (R121). -/
def execLdHE (s : State) : Host.Outcome State Fault Refusal := .next (ldRegReg .H .E s)

/-- LD H,H (R121). -/
def execLdHH (s : State) : Host.Outcome State Fault Refusal := .next (ldRegReg .H .H s)

/-- LD H,L (R121). -/
def execLdHL (s : State) : Host.Outcome State Fault Refusal := .next (ldRegReg .H .L s)

/-- LD H,(HL) (R123). -/
def execLdHMemHl (s : State) : Host.Outcome State Fault Refusal := .next (ldRegMem .H s)

/-- LD H,A (R121). -/
def execLdHA (s : State) : Host.Outcome State Fault Refusal := .next (ldRegReg .H .A s)

/-- LD L,B (R121). -/
def execLdLB (s : State) : Host.Outcome State Fault Refusal := .next (ldRegReg .L .B s)

/-- LD L,C (R121). -/
def execLdLC (s : State) : Host.Outcome State Fault Refusal := .next (ldRegReg .L .C s)

/-- LD L,D (R121). -/
def execLdLD (s : State) : Host.Outcome State Fault Refusal := .next (ldRegReg .L .D s)

/-- LD L,E (R121). -/
def execLdLE (s : State) : Host.Outcome State Fault Refusal := .next (ldRegReg .L .E s)

/-- LD L,H (R121). -/
def execLdLH (s : State) : Host.Outcome State Fault Refusal := .next (ldRegReg .L .H s)

/-- LD L,L (R121). -/
def execLdLL (s : State) : Host.Outcome State Fault Refusal := .next (ldRegReg .L .L s)

/-- LD L,(HL) (R123). -/
def execLdLMemHl (s : State) : Host.Outcome State Fault Refusal := .next (ldRegMem .L s)

/-- LD L,A (R121). -/
def execLdLA (s : State) : Host.Outcome State Fault Refusal := .next (ldRegReg .L .A s)

/-- LD (HL),B (R124). -/
def execLdMemHlB (s : State) : Host.Outcome State Fault Refusal := .next (ldMemReg .B s)

/-- LD (HL),C (R124). -/
def execLdMemHlC (s : State) : Host.Outcome State Fault Refusal := .next (ldMemReg .C s)

/-- LD (HL),D (R124). -/
def execLdMemHlD (s : State) : Host.Outcome State Fault Refusal := .next (ldMemReg .D s)

/-- LD (HL),E (R124). -/
def execLdMemHlE (s : State) : Host.Outcome State Fault Refusal := .next (ldMemReg .E s)

/-- LD (HL),H (R124). -/
def execLdMemHlH (s : State) : Host.Outcome State Fault Refusal := .next (ldMemReg .H s)

/-- LD (HL),L (R124). -/
def execLdMemHlL (s : State) : Host.Outcome State Fault Refusal := .next (ldMemReg .L s)

/-- LD (HL),A (R124). -/
def execLdMemHlA (s : State) : Host.Outcome State Fault Refusal := .next (ldMemReg .A s)

/-- LD A,B (R121). -/
def execLdAB (s : State) : Host.Outcome State Fault Refusal := .next (ldRegReg .A .B s)

/-- LD A,C (R121). -/
def execLdAC (s : State) : Host.Outcome State Fault Refusal := .next (ldRegReg .A .C s)

/-- LD A,D (R121). -/
def execLdAD (s : State) : Host.Outcome State Fault Refusal := .next (ldRegReg .A .D s)

/-- LD A,E (R121). -/
def execLdAE (s : State) : Host.Outcome State Fault Refusal := .next (ldRegReg .A .E s)

/-- LD A,H (R121). -/
def execLdAH (s : State) : Host.Outcome State Fault Refusal := .next (ldRegReg .A .H s)

/-- LD A,L (R121). -/
def execLdAL (s : State) : Host.Outcome State Fault Refusal := .next (ldRegReg .A .L s)

/-- LD A,(HL) (R123). -/
def execLdAMemHl (s : State) : Host.Outcome State Fault Refusal := .next (ldRegMem .A s)

/-- LD A,A (R121). -/
def execLdAA (s : State) : Host.Outcome State Fault Refusal := .next (ldRegReg .A .A s)

/-- LDH (a8),A (R133). -/
def execLdhMemA8A (n : Byte) (s : State) : Host.Outcome State Fault Refusal := .next (storeA (highPage n) 3 s)

/-- LD (C),A (R135). -/
def execLdMemCA (s : State) : Host.Outcome State Fault Refusal := .next (storeA (highPage s.cpu.c) 2 s)

/-- LD (a16),A (R131). -/
def execLdMemA16A (a : Addr) (s : State) : Host.Outcome State Fault Refusal := .next (storeA a 4 s)

/-- LDH A,(a8) (R132). -/
def execLdhAMemA8 (n : Byte) (s : State) : Host.Outcome State Fault Refusal := .next (loadA (highPage n) 3 s)

/-- LD A,(C) (R134). -/
def execLdAMemC (s : State) : Host.Outcome State Fault Refusal := .next (loadA (highPage s.cpu.c) 2 s)

/-- LD A,(a16) (R130). -/
def execLdAMemA16 (a : Addr) (s : State) : Host.Outcome State Fault Refusal := .next (loadA a 4 s)

end Sys2Proof.Machine
end

