-- ==== Sys2Proof/Machine/System.lean ====
section
/-! DEFINITION. System instructions and the unassigned opcodes (47_system.md). -/

namespace Sys2Proof.Machine

/-- Nothing but the time passes (R260, R262, R265). -/
def idle (s : State) : State := s.took 1

/-- HALT (R261). -/
def enterHalt (s : State) : State := (s.setHalted true).took 1

/-- DI (R263). -/
def disableInterrupts (s : State) : State := ((s.setIme false).setImeDelay 0).took 1

/-- EI (R264): IME itself does not change yet. -/
def armInterrupts (s : State) : State := (s.setImeDelay 2).took 1

/-- An unassigned opcode (R265): reported, and a one-cycle no-op. -/
def unassigned (op : Byte) (s : State) : State := idle (s.report op)

/-- NOP (R260). -/
def execNop (s : State) : Host.Outcome State Fault Refusal := .next (idle s)

/-- STOP (R262). -/
def execStop (_pad : Byte) (s : State) : Host.Outcome State Fault Refusal := .next (idle s)

/-- HALT (R261). -/
def execHalt (s : State) : Host.Outcome State Fault Refusal := .next (enterHalt s)

/-- ILLEGAL_D3 (R265). -/
def execIllegalD3 (s : State) : Host.Outcome State Fault Refusal := .next (unassigned 0xD3 s)

/-- ILLEGAL_DB (R265). -/
def execIllegalDB (s : State) : Host.Outcome State Fault Refusal := .next (unassigned 0xDB s)

/-- ILLEGAL_DD (R265). -/
def execIllegalDD (s : State) : Host.Outcome State Fault Refusal := .next (unassigned 0xDD s)

/-- ILLEGAL_E3 (R265). -/
def execIllegalE3 (s : State) : Host.Outcome State Fault Refusal := .next (unassigned 0xE3 s)

/-- ILLEGAL_E4 (R265). -/
def execIllegalE4 (s : State) : Host.Outcome State Fault Refusal := .next (unassigned 0xE4 s)

/-- ILLEGAL_EB (R265). -/
def execIllegalEB (s : State) : Host.Outcome State Fault Refusal := .next (unassigned 0xEB s)

/-- ILLEGAL_EC (R265). -/
def execIllegalEC (s : State) : Host.Outcome State Fault Refusal := .next (unassigned 0xEC s)

/-- ILLEGAL_ED (R265). -/
def execIllegalED (s : State) : Host.Outcome State Fault Refusal := .next (unassigned 0xED s)

/-- DI (R263). -/
def execDi (s : State) : Host.Outcome State Fault Refusal := .next (disableInterrupts s)

/-- ILLEGAL_F4 (R265). -/
def execIllegalF4 (s : State) : Host.Outcome State Fault Refusal := .next (unassigned 0xF4 s)

/-- EI (R264). -/
def execEi (s : State) : Host.Outcome State Fault Refusal := .next (armInterrupts s)

/-- ILLEGAL_FC (R265). -/
def execIllegalFC (s : State) : Host.Outcome State Fault Refusal := .next (unassigned 0xFC s)

/-- ILLEGAL_FD (R265). -/
def execIllegalFD (s : State) : Host.Outcome State Fault Refusal := .next (unassigned 0xFD s)

end Sys2Proof.Machine
end

