-- ==== Sys2Proof/Machine/Ppu.lean ====
section
/-! DEFINITION. The PPU: the dot-state machine, the sprite scan and the scanline draw (60_exceptions.md part 5). It reads VRAM
and OAM directly, no lock asked, and writes neither. -/

namespace Sys2Proof.Machine

/-- `enc` (60_exceptions.md R341, 10_state.md R31). -/
def modeCode : Mode → Byte
  | .hblank => 0
  | .vblank => 1
  | .oamScan => 2
  | .draw => 3

/-- The shade of a colour index (10_state.md R36, 60_exceptions.md R364). -/
def paletteShade (palette : Byte) (ci : Shade) : Shade := (palette >>> (2 * ci.toNat)).extractLsb' 0 2

/-- Pixel of colour planes `low` and `high` at bit `b`: `2 * hi[b] + lo[b]` (60_exceptions.md R360). -/
def planePixel (low high : Byte) (b : Nat) : Shade :=
  (if bit high b then 2 else 0) + (if bit low b then 1 else 0)

/-- Sprite height in rows (60_exceptions.md R352, LCDC bit 2). -/
def spriteHeight (p : Ppu) : Nat := if bit p.lcdc 2 then 16 else 8

/-- OAM entry `i` (10_state.md R22). -/
def oamEntry (mem : Memory) (i : Nat) : Sprite :=
  { y := mem.read (0xFE00 + 4 * i)
    x := mem.read (0xFE00 + 4 * i + 1)
    tile := mem.read (0xFE00 + 4 * i + 2)
    attr := mem.read (0xFE00 + 4 * i + 3)
    idx := i }

/-- The sprite is not hidden and its rows cover `LY + 16` (60_exceptions.md R352). -/
def onScanline (p : Ppu) (e : Sprite) : Bool :=
  decide (e.x ≠ 0) && decide (e.y.toNat ≤ p.ly.toNat + 16) && decide (p.ly.toNat + 16 < e.y.toNat + spriteHeight p)

/-- The first ten sprites of the line in OAM order (60_exceptions.md R352). -/
def selectedSprites (mem : Memory) (p : Ppu) : List Sprite :=
  (((List.range 40).map (oamEntry mem)).filter (onScanline p)).take 10

/-- `e` is drawn before `o`: higher X first, of equal X the higher OAM index first (60_exceptions.md R352, D22). -/
def drawnBefore (e o : Sprite) : Bool :=
  decide (o.x.toNat < e.x.toNat) || (decide (e.x = o.x) && decide (o.idx < e.idx))

/-- Put a sprite in its place in draw order. -/
def placeSprite (e : Sprite) : List Sprite → List Sprite
  | [] => [e]
  | o :: rest => if drawnBefore e o then e :: o :: rest else o :: placeSprite e rest

/-- Draw order. -/
def inDrawOrder : List Sprite → List Sprite
  | [] => []
  | e :: rest => placeSprite e (inDrawOrder rest)

/-- `SpriteScan` (60_exceptions.md R352). -/
def spriteScan (mem : Memory) (p : Ppu) : Ppu := { p with sprites := inDrawOrder (selectedSprites mem p) }

/-- The address of the first byte of a background or window tile (60_exceptions.md R360). -/
def tileBase (lcdc t : Byte) : Nat :=
  if bit lcdc 4 then 0x8000 + 16 * t.toNat else (0x9000 + 16 * t.toInt).toNat

/-- `TilePixel` (60_exceptions.md R360). -/
def tilePixel (mem : Memory) (p : Ppu) (map col row : Nat) : Shade :=
  let base := tileBase p.lcdc (mem.read (map + 32 * (row / 8) + col / 8))
  planePixel (mem.read (base + 2 * (row % 8))) (mem.read (base + 2 * (row % 8) + 1)) (7 - col % 8)

/-- Column `x` of the current line is a window pixel (60_exceptions.md R362). -/
def windowCovers (p : Ppu) (x : Nat) : Bool :=
  bit p.lcdc 0 && bit p.lcdc 5 && decide (p.wy.toNat ≤ p.ly.toNat) && decide (p.wx.toNat ≤ x + 7)

/-- A tile map's address by its LCDC bit (10_state.md R30). -/
def mapBase (select : Bool) : Nat := if select then 0x9C00 else 0x9800

/-- The background or window colour index of column `x` of the current line (60_exceptions.md R359, R361, R362, R367). -/
def bgColour (mem : Memory) (p : Ppu) (x : Nat) : Shade :=
  if !bit p.lcdc 0 then 0
  else if windowCovers p x then tilePixel mem p (mapBase (bit p.lcdc 6)) (x + 7 - p.wx.toNat) p.windowLine
  else tilePixel mem p (mapBase (bit p.lcdc 3)) ((x + p.scx.toNat) % 256) ((p.ly.toNat + p.scy.toNat) % 256)

/-- A row from what each of its columns holds. -/
def rowOf (f : Nat → Shade) : Row := ⟨((List.range 160).map f).toArray, by simp⟩

/-- The row of the sprite's tile the current line shows, before a Y flip (60_exceptions.md R366). -/
def spriteRow (p : Ppu) (e : Sprite) : Nat := p.ly.toNat + 16 - e.y.toNat

/-- The colour index of pixel `k` of a sprite on the current line (60_exceptions.md R366). -/
def spriteColour (mem : Memory) (p : Ppu) (e : Sprite) (k : Nat) : Shade :=
  let r := if bit e.attr 6 then spriteHeight p - 1 - spriteRow p e else spriteRow p e
  let t := if bit p.lcdc 2 then e.tile &&& 0xFE else e.tile
  let base := 0x8000 + 16 * t.toNat + 2 * r
  planePixel (mem.read base) (mem.read (base + 1)) (if bit e.attr 5 then k else 7 - k)

/-- The palette of a sprite (60_exceptions.md R366). -/
def spritePalette (p : Ppu) (e : Sprite) : Byte := if bit e.attr 4 then p.obp1 else p.obp0

/-- Draw pixel `k` of a sprite into the row: clipped to the screen, transparent at index 0, behind a non-zero background
where attribute bit 7 says so (60_exceptions.md R366). -/
def drawSpritePixel (mem : Memory) (p : Ppu) (e : Sprite) (row : Row) (k : Nat) : Row :=
  let ci := spriteColour mem p e k
  let sx := e.x.toNat + k - 8
  if e.x.toNat + k < 8 ∨ 159 < sx then row
  else if ci = 0 then row
  else if bit e.attr 7 ∧ p.bgIdx[sx]? ≠ some 0 then row
  else row.setIfInBounds sx (paletteShade (spritePalette p e) ci)

/-- `DrawSprite` (60_exceptions.md R366). A sprite whose row is outside the height now in force draws nothing. -/
def drawSprite (mem : Memory) (p : Ppu) (row : Row) (e : Sprite) : Row :=
  if p.ly.toNat + 16 < e.y.toNat ∨ spriteHeight p ≤ spriteRow p e then row
  else (List.range 8).foldl (drawSpritePixel mem p e) row

/-- The background pass of `DrawScanline` (60_exceptions.md R359): `bg_idx`, and the window's line counter. -/
def drawBackground (mem : Memory) (p : Ppu) : Ppu :=
  { p with
    bgIdx := rowOf (bgColour mem p)
    windowLine := if (List.range 160).any (windowCovers p) then p.windowLine + 1 else p.windowLine }

/-- The finished row of the current line, `bg_idx` being that line's (60_exceptions.md R359). -/
def finishedRow (mem : Memory) (p : Ppu) : Row :=
  let background := p.bgIdx.map (paletteShade p.bgp)
  if bit p.lcdc 1 then p.sprites.foldl (drawSprite mem p) background else background

/-- `DrawScanline` (60_exceptions.md R359): row LY of the frame buffer. -/
def drawScanline (mem : Memory) (p : Ppu) : Ppu :=
  let p1 := drawBackground mem p
  { p1 with fb := p1.fb.setIfInBounds p1.ly.toNat (finishedRow mem p1) }

/-- The events of a dot: modes and VBLANK entry (60_exceptions.md R341, R342, R343). -/
def modeEvents (mem : Memory) (p : Ppu) : Ppu :=
  if p.ly.toNat ≤ 143 then
    if p.dots = 1 then spriteScan mem { p with mode := .oamScan }
    else if p.dots = 81 then drawScanline mem { p with mode := .draw }
    else if p.dots = 253 then { p with mode := .hblank }
    else p
  else if p.ly.toNat = 144 ∧ p.dots = 1 then { p with mode := .vblank, vblankReq := true, windowLine := 0 }
  else p

/-- STAT bit 2 from LY = LYC (60_exceptions.md R347). -/
def compareLyc (p : Ppu) : Ppu :=
  { p with stat := (p.stat &&& 0xFB) ||| (if p.ly = p.lyc then 0x04 else 0) }

/-- The end of the last line of the frame is reached (60_exceptions.md R345). -/
def frameEnds (p : Ppu) : Bool := decide (p.dots = 456) && decide (p.ly.toNat = 153)

/-- The end of a line (60_exceptions.md R341, R344, R345). -/
def lineEnd (p : Ppu) : Ppu :=
  if p.dots = 456 then
    if p.ly.toNat = 153 then compareLyc { p with dots := 0, ly := 0, mode := .oamScan }
    else compareLyc { p with dots := 0, ly := p.ly + 1 }
  else p

/-- The mode mirror (60_exceptions.md R346). -/
def mirrorMode (p : Ppu) : Ppu := { p with stat := (p.stat &&& 0xFC) ||| modeCode p.mode }

/-- The STAT line (60_exceptions.md R348). -/
def statLine (p : Ppu) : Bool :=
  (bit p.stat 6 && bit p.stat 2)
  || (bit p.stat 5 && p.mode == .oamScan)
  || (bit p.stat 4 && p.mode == .vblank)
  || (bit p.stat 3 && p.mode == .hblank)

/-- The edge detector (60_exceptions.md R349). -/
def detectEdge (p : Ppu) : Ppu :=
  { p with statReq := p.statReq || (statLine p && !p.statLinePrev), statLinePrev := statLine p }

/-- A dot up to its line end: the counter and the mode events. -/
def beginDot (mem : Memory) (p : Ppu) : Ppu := modeEvents mem { p with dots := p.dots + 1 }

/-- What is left of a dot: the line end, the mirror, the edge detector (60_exceptions.md R341). -/
def endDot (p : Ppu) : Ppu := detectEdge (mirrorMode (lineEnd p))

/-- `DotStep` (60_exceptions.md R341), with the frame output of R368. -/
def dotStep (s : State) : State :=
  let p := beginDot s.mem s.ppu
  { s with
    ppu := endDot p
    out.frames := if frameEnds p then p.fb :: s.out.frames else s.out.frames }

/-- `k` dot steps. -/
def dotSteps : Nat → State → State
  | 0, s => s
  | k + 1, s => dotSteps k (dotStep s)

/-- `PpuTick(n)` (60_exceptions.md R340). -/
def ppuTick (n : Nat) (s : State) : State := dotSteps (4 * n) s

end Sys2Proof.Machine
end

