-- ==== Sys2Proof/Machine/Tick.lean ====
section
/-! DEFINITION. The timer (60_exceptions.md R330 to R333). The rule's while loops take out whole periods: their count is the
quotient and what is left the remainder. -/

namespace Sys2Proof.Machine

/-- The TIMA period TAC selects, in M-cycles (10_state.md R28). -/
def timerPeriod (tac : Byte) : Nat :=
  match (tac.extractLsb' 0 2).toNat with
  | 0 => 1024
  | 1 => 16
  | 2 => 64
  | _ => 256

/-- TAC bit 2 (10_state.md R28). -/
def timerEnabled (tac : Byte) : Bool := bit tac 2

/-- The divider (60_exceptions.md R331). -/
def tickDivider (n : Nat) (t : Timer) : Timer :=
  { t with div := t.div + BitVec.ofNat 8 ((t.divRemainder + n) / 64), divRemainder := (t.divRemainder + n) % 64 }

/-- One increment of TIMA: on overflow the reload from TMA and the request, at once (60_exceptions.md R332). -/
def countTima (t : Timer) : Timer :=
  if t.tima = 0xFF then { t with tima := t.tma, req := true } else { t with tima := t.tima + 1 }

/-- `k` increments of TIMA. -/
def countTimaTimes : Nat → Timer → Timer
  | 0, t => t
  | k + 1, t => countTimaTimes k (countTima t)

/-- The counter (60_exceptions.md R332). -/
def tickCounter (n : Nat) (t : Timer) : Timer :=
  if timerEnabled t.tac then
    let total := t.timaRemainder + n * Config.timerCycleScale
    countTimaTimes (total / timerPeriod t.tac) { t with timaRemainder := total % timerPeriod t.tac }
  else t

/-- `TimerTick(n)` (60_exceptions.md R330). -/
def tickTimer (n : Nat) (t : Timer) : Timer := tickCounter n (tickDivider n t)

/-- `TimerTick(n)` on the machine. -/
def timerTick (n : Nat) (s : State) : State := { s with timer := tickTimer n s.timer }

end Sys2Proof.Machine
end

