-- ==== Sys2Proof/Machine/CpuStep.lean ====
section
/-! DEFINITION. The CPU step and the parts of the system step that follow it (60_exceptions.md R300, R301), and how a word of
the opcode table is placed where the next step fetches. -/

namespace Sys2Proof.Machine

/-- The decode errors as a fault's number. -/
def faultOf : DecodeError → Fault
  | .noOpcode => .undecodable 0
  | .missingOperand => .undecodable 1

/-- Fetch, decode and run one instruction (60_exceptions.md R301). -/
def runInstruction (s : State) : Host.Outcome State Fault Refusal :=
  match fetch s with
  | .ok (i, s') => exec i s'
  | .error e => .fault (faultOf e)

/-- `CpuStep` (60_exceptions.md R301): the halted test, the EI delay, the interrupt test, then fetch and run. The M-cycles it
returns are left in `cpu.cycles`. -/
def cpuStep (s : State) : Host.Outcome State Fault Refusal :=
  if s.cpu.halted then .next (haltedStep s)
  else
    match dispatched (resolveImeDelay s) with
    | some i => .next (takeInterrupt i (resolveImeDelay s))
    | none => runInstruction (resolveImeDelay s)

/-- The parts of `SystemStep` after a CPU step that returned `n` M-cycles (60_exceptions.md R300). -/
def advanceDevices (n : Nat) (s : State) : State := latch (timerTick n (ppuTick n s))

/-- The three addresses from PC on are bytes of ROM, WRAM or HRAM, which no lock closes. -/
def loadableAtPc (s : State) : Bool :=
  [s.cpu.pc, s.cpu.pc + 1, s.cpu.pc + 2].all fun a =>
    regionOf a == .rom || regionOf a == .wram || regionOf a == .hram

/-- The state made ready to fetch: not halted, no interrupt to dispatch, PC at loadable addresses, and the default cartridge
(which alone has its bytes in `mem`) if another is attached. -/
def readyToFetch (s : State) : State :=
  let s1 := if s.cpu.halted then s.setHalted false else s
  let s2 := if (dispatched (resolveImeDelay s1)).isSome then (s1.setIme false).setImeDelay 0 else s1
  let s3 := if loadableAtPc s2 then s2 else s2.setPc 0x0100
  if s3.cart = .flatRom then s3 else { s3 with cart := .flatRom }

/-- Place three bytes at PC, no lock asked. -/
def placeAtPc (s : State) (bytes : List Byte) : State :=
  match bytes with
  | [b0, b1, b2] =>
    ((s.storeByte s.cpu.pc.toNat b0).storeByte (s.cpu.pc + 1).toNat b1).storeByte (s.cpu.pc + 2).toNat b2
  | _ => s

end Sys2Proof.Machine
end

