-- ==== Sys2Proof/Machine/Step.lean ====
section
/-! DEFINITION. The system step (60_exceptions.md R300). -/

namespace Sys2Proof.Machine

/-- `SystemStep` (60_exceptions.md R300): the CPU step, then the PPU and the timer by the M-cycles it returned, then the
latch. -/
def step (s : State) : Host.Outcome State Fault Refusal :=
  match cpuStep s with
  | .next t => .next (advanceDevices t.cpu.cycles t)
  | .fault f => .fault f
  | .refused r => .refused r

/-- The state with the instruction of an opcode-table word placed where the next step fetches (log entry 8). -/
def State.withFetchWord (s : State) (nbits w : Nat) : State := placeAtPc (readyToFetch s) (tableBytes nbits w)

end Sys2Proof.Machine
end

