-- ==== Sys2Proof/Safety.lean ====
section
/-! DEFINITION. The terms the claims are stated in: the instruction forms by operand and their encodings by field, what an
instruction may change, and the invariants of the machine between system steps. -/

namespace Sys2Proof

open Sys2Proof.Machine (pick8)

/-- LD r,r' (40_loads_8bit.md R121). -/
def Form.load : R8 → R8 → Instr
  | .B, .B => .ldBB
  | .B, .C => .ldBC
  | .B, .D => .ldBD
  | .B, .E => .ldBE
  | .B, .H => .ldBH
  | .B, .L => .ldBL
  | .B, .A => .ldBA
  | .C, .B => .ldCB
  | .C, .C => .ldCC
  | .C, .D => .ldCD
  | .C, .E => .ldCE
  | .C, .H => .ldCH
  | .C, .L => .ldCL
  | .C, .A => .ldCA
  | .D, .B => .ldDB
  | .D, .C => .ldDC
  | .D, .D => .ldDD
  | .D, .E => .ldDE
  | .D, .H => .ldDH
  | .D, .L => .ldDL
  | .D, .A => .ldDA
  | .E, .B => .ldEB
  | .E, .C => .ldEC
  | .E, .D => .ldED
  | .E, .E => .ldEE
  | .E, .H => .ldEH
  | .E, .L => .ldEL
  | .E, .A => .ldEA
  | .H, .B => .ldHB
  | .H, .C => .ldHC
  | .H, .D => .ldHD
  | .H, .E => .ldHE
  | .H, .H => .ldHH
  | .H, .L => .ldHL
  | .H, .A => .ldHA
  | .L, .B => .ldLB
  | .L, .C => .ldLC
  | .L, .D => .ldLD
  | .L, .E => .ldLE
  | .L, .H => .ldLH
  | .L, .L => .ldLL
  | .L, .A => .ldLA
  | .A, .B => .ldAB
  | .A, .C => .ldAC
  | .A, .D => .ldAD
  | .A, .E => .ldAE
  | .A, .H => .ldAH
  | .A, .L => .ldAL
  | .A, .A => .ldAA

/-- LD r,d8 (R122). -/
def Form.loadImm : R8 → Byte → Instr
  | .B, v => .ldBD8 v
  | .C, v => .ldCD8 v
  | .D, v => .ldDD8 v
  | .E, v => .ldED8 v
  | .H, v => .ldHD8 v
  | .L, v => .ldLD8 v
  | .A, v => .ldAD8 v

/-- LD r,(HL) (R123). -/
def Form.loadFromHl : R8 → Instr
  | .B => .ldBMemHl
  | .C => .ldCMemHl
  | .D => .ldDMemHl
  | .E => .ldEMemHl
  | .H => .ldHMemHl
  | .L => .ldLMemHl
  | .A => .ldAMemHl

/-- LD (HL),r (R124). -/
def Form.storeAtHl : R8 → Instr
  | .B => .ldMemHlB
  | .C => .ldMemHlC
  | .D => .ldMemHlD
  | .E => .ldMemHlE
  | .H => .ldMemHlH
  | .L => .ldMemHlL
  | .A => .ldMemHlA

/-- LD rr,d16 (41_loads_16bit_stack.md R150). -/
def Form.loadPair : R16 → Addr → Instr
  | .BC, v => .ldBcD16 v
  | .DE, v => .ldDeD16 v
  | .HL, v => .ldHlD16 v
  | .SP, v => .ldSpD16 v

/-- PUSH rr (R154). -/
def Form.push : R16Stk → Instr
  | .BC => .pushBc
  | .DE => .pushDe
  | .HL => .pushHl
  | .AF => .pushAf

/-- POP rr (R155, R156). -/
def Form.pop : R16Stk → Instr
  | .BC => .popBc
  | .DE => .popDe
  | .HL => .popHl
  | .AF => .popAf

/-- ADD, ADC, SUB, SBC, AND, XOR, OR, CP in each operand form (42_alu_8bit.md R171 to R179). -/
def Form.alu : AluOp → Source → Instr
  | .add, .loc (.reg .B) => .addAB
  | .add, .loc (.reg .C) => .addAC
  | .add, .loc (.reg .D) => .addAD
  | .add, .loc (.reg .E) => .addAE
  | .add, .loc (.reg .H) => .addAH
  | .add, .loc (.reg .L) => .addAL
  | .add, .loc (.reg .A) => .addAA
  | .add, .loc .memHl => .addAMemHl
  | .add, .imm v => .addAD8 v
  | .adc, .loc (.reg .B) => .adcAB
  | .adc, .loc (.reg .C) => .adcAC
  | .adc, .loc (.reg .D) => .adcAD
  | .adc, .loc (.reg .E) => .adcAE
  | .adc, .loc (.reg .H) => .adcAH
  | .adc, .loc (.reg .L) => .adcAL
  | .adc, .loc (.reg .A) => .adcAA
  | .adc, .loc .memHl => .adcAMemHl
  | .adc, .imm v => .adcAD8 v
  | .sub, .loc (.reg .B) => .subB
  | .sub, .loc (.reg .C) => .subC
  | .sub, .loc (.reg .D) => .subD
  | .sub, .loc (.reg .E) => .subE
  | .sub, .loc (.reg .H) => .subH
  | .sub, .loc (.reg .L) => .subL
  | .sub, .loc (.reg .A) => .subA
  | .sub, .loc .memHl => .subMemHl
  | .sub, .imm v => .subD8 v
  | .sbc, .loc (.reg .B) => .sbcAB
  | .sbc, .loc (.reg .C) => .sbcAC
  | .sbc, .loc (.reg .D) => .sbcAD
  | .sbc, .loc (.reg .E) => .sbcAE
  | .sbc, .loc (.reg .H) => .sbcAH
  | .sbc, .loc (.reg .L) => .sbcAL
  | .sbc, .loc (.reg .A) => .sbcAA
  | .sbc, .loc .memHl => .sbcAMemHl
  | .sbc, .imm v => .sbcAD8 v
  | .and, .loc (.reg .B) => .andB
  | .and, .loc (.reg .C) => .andC
  | .and, .loc (.reg .D) => .andD
  | .and, .loc (.reg .E) => .andE
  | .and, .loc (.reg .H) => .andH
  | .and, .loc (.reg .L) => .andL
  | .and, .loc (.reg .A) => .andA
  | .and, .loc .memHl => .andMemHl
  | .and, .imm v => .andD8 v
  | .xor, .loc (.reg .B) => .xorB
  | .xor, .loc (.reg .C) => .xorC
  | .xor, .loc (.reg .D) => .xorD
  | .xor, .loc (.reg .E) => .xorE
  | .xor, .loc (.reg .H) => .xorH
  | .xor, .loc (.reg .L) => .xorL
  | .xor, .loc (.reg .A) => .xorA
  | .xor, .loc .memHl => .xorMemHl
  | .xor, .imm v => .xorD8 v
  | .or, .loc (.reg .B) => .orB
  | .or, .loc (.reg .C) => .orC
  | .or, .loc (.reg .D) => .orD
  | .or, .loc (.reg .E) => .orE
  | .or, .loc (.reg .H) => .orH
  | .or, .loc (.reg .L) => .orL
  | .or, .loc (.reg .A) => .orA
  | .or, .loc .memHl => .orMemHl
  | .or, .imm v => .orD8 v
  | .cp, .loc (.reg .B) => .cpB
  | .cp, .loc (.reg .C) => .cpC
  | .cp, .loc (.reg .D) => .cpD
  | .cp, .loc (.reg .E) => .cpE
  | .cp, .loc (.reg .H) => .cpH
  | .cp, .loc (.reg .L) => .cpL
  | .cp, .loc (.reg .A) => .cpA
  | .cp, .loc .memHl => .cpMemHl
  | .cp, .imm v => .cpD8 v

/-- INC r and INC (HL) (R180, R181). -/
def Form.inc : Loc → Instr
  | .reg .B => .incB
  | .reg .C => .incC
  | .reg .D => .incD
  | .reg .E => .incE
  | .reg .H => .incH
  | .reg .L => .incL
  | .reg .A => .incA
  | .memHl => .incMemHl

/-- DEC r and DEC (HL) (R182, R183). -/
def Form.dec : Loc → Instr
  | .reg .B => .decB
  | .reg .C => .decC
  | .reg .D => .decD
  | .reg .E => .decE
  | .reg .H => .decH
  | .reg .L => .decL
  | .reg .A => .decA
  | .memHl => .decMemHl

/-- ADD HL,rr (43_alu_16bit.md R200). -/
def Form.addHl : R16 → Instr
  | .BC => .addHlBc
  | .DE => .addHlDe
  | .HL => .addHlHl
  | .SP => .addHlSp

/-- INC rr (R201). -/
def Form.incPair : R16 → Instr
  | .BC => .incBc
  | .DE => .incDe
  | .HL => .incHl
  | .SP => .incSp

/-- DEC rr (R202). -/
def Form.decPair : R16 → Instr
  | .BC => .decBc
  | .DE => .decDe
  | .HL => .decHl
  | .SP => .decSp

/-- JP cc,a16 (45_control_transfer.md R221). -/
def Form.jumpIf : Cond → Addr → Instr
  | .NZ, a => .jpNzA16 a
  | .Z, a => .jpZA16 a
  | .NC, a => .jpNcA16 a
  | .C, a => .jpCA16 a

/-- JR cc,e8 (R224). -/
def Form.jumpRelIf : Cond → Byte → Instr
  | .NZ, e => .jrNzE8 e
  | .Z, e => .jrZE8 e
  | .NC, e => .jrNcE8 e
  | .C, e => .jrCE8 e

/-- CALL cc,a16 (R226). -/
def Form.callIf : Cond → Addr → Instr
  | .NZ, a => .callNzA16 a
  | .Z, a => .callZA16 a
  | .NC, a => .callNcA16 a
  | .C, a => .callCA16 a

/-- RET cc (R228). -/
def Form.retIf : Cond → Instr
  | .NZ => .retNz
  | .Z => .retZ
  | .NC => .retNc
  | .C => .retC

/-- RST t (R230). -/
def Form.restart (t : BitVec 3) : Instr := pick8 .rst00 .rst08 .rst10 .rst18 .rst20 .rst28 .rst30 .rst38 t

/-- The rotates, shifts and SWAP (46_cb_prefixed.md R241 to R248). -/
def Form.shift : ShiftOp → Loc → Instr
  | .rlc, .reg .B => .rlcB
  | .rlc, .reg .C => .rlcC
  | .rlc, .reg .D => .rlcD
  | .rlc, .reg .E => .rlcE
  | .rlc, .reg .H => .rlcH
  | .rlc, .reg .L => .rlcL
  | .rlc, .reg .A => .rlcA
  | .rlc, .memHl => .rlcMemHl
  | .rrc, .reg .B => .rrcB
  | .rrc, .reg .C => .rrcC
  | .rrc, .reg .D => .rrcD
  | .rrc, .reg .E => .rrcE
  | .rrc, .reg .H => .rrcH
  | .rrc, .reg .L => .rrcL
  | .rrc, .reg .A => .rrcA
  | .rrc, .memHl => .rrcMemHl
  | .rl, .reg .B => .rlB
  | .rl, .reg .C => .rlC
  | .rl, .reg .D => .rlD
  | .rl, .reg .E => .rlE
  | .rl, .reg .H => .rlH
  | .rl, .reg .L => .rlL
  | .rl, .reg .A => .rlA
  | .rl, .memHl => .rlMemHl
  | .rr, .reg .B => .rrB
  | .rr, .reg .C => .rrC
  | .rr, .reg .D => .rrD
  | .rr, .reg .E => .rrE
  | .rr, .reg .H => .rrH
  | .rr, .reg .L => .rrL
  | .rr, .reg .A => .rrA
  | .rr, .memHl => .rrMemHl
  | .sla, .reg .B => .slaB
  | .sla, .reg .C => .slaC
  | .sla, .reg .D => .slaD
  | .sla, .reg .E => .slaE
  | .sla, .reg .H => .slaH
  | .sla, .reg .L => .slaL
  | .sla, .reg .A => .slaA
  | .sla, .memHl => .slaMemHl
  | .sra, .reg .B => .sraB
  | .sra, .reg .C => .sraC
  | .sra, .reg .D => .sraD
  | .sra, .reg .E => .sraE
  | .sra, .reg .H => .sraH
  | .sra, .reg .L => .sraL
  | .sra, .reg .A => .sraA
  | .sra, .memHl => .sraMemHl
  | .swap, .reg .B => .swapB
  | .swap, .reg .C => .swapC
  | .swap, .reg .D => .swapD
  | .swap, .reg .E => .swapE
  | .swap, .reg .H => .swapH
  | .swap, .reg .L => .swapL
  | .swap, .reg .A => .swapA
  | .swap, .memHl => .swapMemHl
  | .srl, .reg .B => .srlB
  | .srl, .reg .C => .srlC
  | .srl, .reg .D => .srlD
  | .srl, .reg .E => .srlE
  | .srl, .reg .H => .srlH
  | .srl, .reg .L => .srlL
  | .srl, .reg .A => .srlA
  | .srl, .memHl => .srlMemHl

/-- BIT b,x (R249). -/
def Form.bit : BitVec 3 → Loc → Instr
  | b, .reg .B => .bitB b
  | b, .reg .C => .bitC b
  | b, .reg .D => .bitD b
  | b, .reg .E => .bitE b
  | b, .reg .H => .bitH b
  | b, .reg .L => .bitL b
  | b, .reg .A => .bitA b
  | b, .memHl => .bitMemHl b

/-- RES b,x (R250). -/
def Form.res : BitVec 3 → Loc → Instr
  | b, .reg .B => .resB b
  | b, .reg .C => .resC b
  | b, .reg .D => .resD b
  | b, .reg .E => .resE b
  | b, .reg .H => .resH b
  | b, .reg .L => .resL b
  | b, .reg .A => .resA b
  | b, .memHl => .resMemHl b

/-- SET b,x (R251). -/
def Form.set : BitVec 3 → Loc → Instr
  | b, .reg .B => .setB b
  | b, .reg .C => .setC b
  | b, .reg .D => .setD b
  | b, .reg .E => .setE b
  | b, .reg .H => .setH b
  | b, .reg .L => .setL b
  | b, .reg .A => .setA b
  | b, .memHl => .setMemHl b

/-- The unassigned opcodes, each with its byte (47_system.md R265). -/
def unassignedOpcodes : List (Byte × Instr) :=
  [(0xD3, .illegalD3), (0xDB, .illegalDB), (0xDD, .illegalDD), (0xE3, .illegalE3), (0xE4, .illegalE4), (0xEB, .illegalEB),
   (0xEC, .illegalEC), (0xED, .illegalED), (0xF4, .illegalF4), (0xFC, .illegalFC), (0xFD, .illegalFD)]

/-- The value of a register in the field table `R8` (30_encoding.md R92). -/
def R8.code : R8 → Byte
  | .B => 0
  | .C => 1
  | .D => 2
  | .E => 3
  | .H => 4
  | .L => 5
  | .A => 7

/-- The value of an operand in the field table `R8` (R92). -/
def Loc.code : Loc → Byte
  | .reg r => r.code
  | .memHl => 6

/-- The value in the field table `R16` (R92). -/
def R16.code : R16 → Byte
  | .BC => 0
  | .DE => 1
  | .HL => 2
  | .SP => 3

/-- The value in the field table `R16STK` (R92). -/
def R16Stk.code : R16Stk → Byte
  | .BC => 0
  | .DE => 1
  | .HL => 2
  | .AF => 3

/-- The value in the field table `CC` (R92). -/
def Cond.code : Cond → Byte
  | .NZ => 0
  | .Z => 1
  | .NC => 2
  | .C => 3

/-- The value in the column "ALU op" (R92). -/
def AluOp.code : AluOp → Byte
  | .add => 0
  | .adc => 1
  | .sub => 2
  | .sbc => 3
  | .and => 4
  | .xor => 5
  | .or => 6
  | .cp => 7

/-- The value in the column "CB class 0 sub-op" (R92). -/
def ShiftOp.code : ShiftOp → Byte
  | .rlc => 0
  | .rrc => 1
  | .rl => 2
  | .rr => 3
  | .sla => 4
  | .sra => 5
  | .swap => 6
  | .srl => 7

/-- The bytes of an accumulator operation (42_alu_8bit.md R171). -/
def aluBytes (op : AluOp) : Source → List Byte
  | .loc l => [0x80 + 8 * op.code + l.code]
  | .imm v => [0xC6 + 8 * op.code, v]

/-- `bytes` is the whole encoding of `i`, whatever follows it. -/
def EncodedAs (i : Instr) (bytes : List Byte) : Prop := ∀ rest, decode (bytes ++ rest) = .ok (i, rest)

namespace Machine

/-- F holds these four flags, its low nibble zero (10_state.md R12, R13). -/
def FlagsAre (f : Byte) (z n h c : Bool) : Prop :=
  f.getLsbD 7 = z ∧ f.getLsbD 6 = n ∧ f.getLsbD 5 = h ∧ f.getLsbD 4 = c ∧ f &&& 0x0F = 0

/-- The Z flag (10_state.md R13). -/
def zeroFlag (s : State) : Bool := s.cpu.f.getLsbD 7

/-- The N flag (10_state.md R13). -/
def subFlag (s : State) : Bool := s.cpu.f.getLsbD 6

/-- The H flag (10_state.md R13). -/
def halfFlag (s : State) : Bool := s.cpu.f.getLsbD 5

/-- The C flag (10_state.md R13). -/
def carryFlag (s : State) : Bool := s.cpu.f.getLsbD 4

/-- The cartridge answers at this address (10_state.md R46). -/
def cartridgeOwns (a : Addr) : Bool := regionOf a == .rom || regionOf a == .extRam

/-- What a store at `addr` can change the reading of: that byte; all of OAM where it starts a DMA transfer
(20_memory.md R71); and, with a cartridge other than the default one, what the cartridge answers (10_state.md R46). -/
def StoreReaches (s : State) (addr a : Addr) : Prop :=
  a = addr ∨ (addr = 0xFF46 ∧ regionOf a = .oam)
    ∨ (s.cart ≠ .flatRom ∧ cartridgeOwns addr = true ∧ cartridgeOwns a = true)

/-- `i` completes from `s`; the CPU's registers become `cpu`; nothing else of the machine changes, and every address reads
as before. -/
def RegistersOnly (i : Instr) (s : State) (cpu : Cpu) : Prop :=
  exec i s = .next { s with cpu := cpu } ∧ ∀ a, busRead { s with cpu := cpu } a = busRead s a

/-- `i` completes from `s` by one bus write of `v` at `addr`; the CPU's registers become `cpu`; every address the store does
not reach reads as before. -/
def StoresByte (i : Instr) (s : State) (addr : Addr) (v : Byte) (cpu : Cpu) : Prop :=
  exec i s = .next { busWrite s addr v with cpu := cpu }
    ∧ ∀ a, ¬ StoreReaches s addr a → busRead { busWrite s addr v with cpu := cpu } a = busRead s a

/-- The two bus writes of a push of `v` (00_scope.md R7): the high byte below SP, then the low byte below that. -/
def pushWrites (s : State) (v : Addr) : State :=
  busWrite (busWrite s (s.cpu.sp - 1) (v.extractLsb' 8 8)) (s.cpu.sp - 2) (v.extractLsb' 0 8)

/-- `i` completes from `s` by pushing `v`; the CPU's registers become `cpu`; every address outside the two bytes pushed (and
what a store there reaches) reads as before. -/
def PushesWord (i : Instr) (s : State) (v : Addr) (cpu : Cpu) : Prop :=
  exec i s = .next { pushWrites s v with cpu := cpu }
    ∧ ∀ a, ¬ StoreReaches s (s.cpu.sp - 1) a → ¬ StoreReaches s (s.cpu.sp - 2) a →
        busRead { pushWrites s v with cpu := cpu } a = busRead s a

/-- The word on top of the stack: the low byte at SP, the high byte above it (00_scope.md R7). -/
def topOfStack (s : State) : Addr := busRead s (s.cpu.sp + 1) ++ busRead s s.cpu.sp

/-- `Cond(cc)` from the flag bits (00_scope.md R7). -/
def condition (s : State) : Cond → Bool
  | .NZ => !zeroFlag s
  | .Z => zeroFlag s
  | .NC => !carryFlag s
  | .C => carryFlag s

/-- The result and the new C of a rotate, shift or SWAP of `v`, on integers (46_cb_prefixed.md R241 to R248). -/
def shiftedValue (v : Nat) (carry : Bool) : ShiftOp → Nat × Bool
  | .rlc => ((2 * v + v / 128) % 256, decide (128 ≤ v))
  | .rrc => (v / 2 + 128 * (v % 2), decide (v % 2 = 1))
  | .rl => ((2 * v + carry.toNat) % 256, decide (128 ≤ v))
  | .rr => (v / 2 + 128 * carry.toNat, decide (v % 2 = 1))
  | .sla => ((2 * v) % 256, decide (128 ≤ v))
  | .sra => (v / 2 + 128 * (v / 128), decide (v % 2 = 1))
  | .swap => (16 * (v % 16) + v / 16, false)
  | .srl => (v / 2, decide (v % 2 = 1))

/-- The packed decimal byte of a number below 100 (00_scope.md R9, "BCD correction"). -/
def packedDecimal (n : Nat) : Byte := BitVec.ofNat 8 (16 * (n / 10) + n % 10)

/-- The first address of a tile's 16 bytes, by LCDC bit 4 (60_exceptions.md R360). -/
def tileAddress (lcdc : Byte) (t : Nat) : Nat :=
  if lcdc.getLsbD 4 then 0x8000 + 16 * t else if t < 128 then 0x9000 + 16 * t else 0x9000 + 16 * t - 16 * 256

/-- The colour index at column `col` and row `row` of the tile map at `map` (60_exceptions.md R360). -/
def mapColour (mem : Memory) (lcdc : Byte) (map col row : Nat) : Nat :=
  let base := tileAddress lcdc (mem.read (map + 32 * (row / 8) + col / 8)).toNat
  2 * ((mem.read (base + 2 * (row % 8) + 1)).getLsbD (7 - col % 8)).toNat
    + ((mem.read (base + 2 * (row % 8))).getLsbD (7 - col % 8)).toNat

/-- Column `x` of the line is a window pixel (60_exceptions.md R362). -/
def inWindow (p : Ppu) (x : Nat) : Bool :=
  p.lcdc.getLsbD 0 && p.lcdc.getLsbD 5 && decide (p.wy.toNat ≤ p.ly.toNat) && decide (p.wx.toNat ≤ x + 7)

/-- The background or window colour index of column `x` of the line (60_exceptions.md R359, R361, R362, R367). -/
def backdropColour (mem : Memory) (p : Ppu) (x : Nat) : Nat :=
  if p.lcdc.getLsbD 0 = false then 0
  else if inWindow p x then
    mapColour mem p.lcdc (if p.lcdc.getLsbD 6 then 0x9C00 else 0x9800) (x + 7 - p.wx.toNat) p.windowLine
  else
    mapColour mem p.lcdc (if p.lcdc.getLsbD 3 then 0x9C00 else 0x9800) ((x + p.scx.toNat) % 256)
      ((p.ly.toNat + p.scy.toNat) % 256)

/-- The colour index the sprite `e` has at column `x` of the line, the column being one of its eight
(60_exceptions.md R366). -/
def spriteIndexAt (mem : Memory) (p : Ppu) (e : Sprite) (x : Nat) : Nat :=
  let h := if p.lcdc.getLsbD 2 then 16 else 8
  let r := p.ly.toNat + 16 - e.y.toNat
  let r' := if e.attr.getLsbD 6 then h - 1 - r else r
  let t := if p.lcdc.getLsbD 2 then e.tile.toNat / 2 * 2 else e.tile.toNat
  let k := x + 8 - e.x.toNat
  let b := if e.attr.getLsbD 5 then k else 7 - k
  2 * ((mem.read (0x8000 + 16 * t + 2 * r' + 1)).getLsbD b).toNat + ((mem.read (0x8000 + 16 * t + 2 * r')).getLsbD b).toNat

/-- The sprite `e` draws column `x` of the line over a background of colour index `backdrop` (60_exceptions.md R366): its
rows cover the line, its columns cover `x`, the pixel is not transparent, and no non-zero background hides it. -/
def spriteShows (mem : Memory) (p : Ppu) (backdrop x : Nat) (e : Sprite) : Bool :=
  decide (e.y.toNat ≤ p.ly.toNat + 16) && decide (p.ly.toNat + 16 < e.y.toNat + (if p.lcdc.getLsbD 2 then 16 else 8))
    && decide (e.x.toNat ≤ x + 8) && decide (x < e.x.toNat)
    && decide (spriteIndexAt mem p e x ≠ 0) && !(e.attr.getLsbD 7 && decide (backdrop ≠ 0))

/-- The shade of colour index `ci` (60_exceptions.md R364). -/
def shadeOf (palette : Byte) (ci : Nat) : Nat := palette.toNat / 4 ^ ci % 4

/-- The shade of column `x` of the finished line (60_exceptions.md R359, R364, R366): the last sprite of the buffer that
shows there, else the background or window. -/
def finishedShade (mem : Memory) (p : Ppu) (x : Nat) : Nat :=
  match (if p.lcdc.getLsbD 1 then p.sprites.reverse.find? (spriteShows mem p (backdropColour mem p x) x) else none) with
  | some e => shadeOf (if e.attr.getLsbD 4 then p.obp1 else p.obp0) (spriteIndexAt mem p e x)
  | none => shadeOf p.bgp (backdropColour mem p x)

/-- The sprite is not hidden and its rows cover the line (60_exceptions.md R352). -/
def spriteCovers (p : Ppu) (e : Sprite) : Bool :=
  decide (e.x.toNat ≠ 0) && decide (e.y.toNat ≤ p.ly.toNat + 16)
    && decide (p.ly.toNat + 16 < e.y.toNat + (if p.lcdc.getLsbD 2 then 16 else 8))

/-- The window's line counter is never ahead of the lines drawn (10_state.md R40, R49). -/
def WindowBound (p : Ppu) : Prop :=
  if p.ly.toNat ≤ 143 then p.windowLine ≤ p.ly.toNat + (if p.dots ≤ 80 then 0 else 1)
  else if p.ly.toNat = 144 ∧ p.dots = 0 then p.windowLine ≤ 144
  else p.windowLine = 0

/-- The mode the position within the frame forces between dot steps (60_exceptions.md R342, R343, R344, R369). -/
def ModeTimed (p : Ppu) : Prop :=
  if p.ly.toNat ≤ 143 then
    if p.dots = 0 then if p.ly = 0 then p.mode = .oamScan ∨ p.mode = .vblank else p.mode = .hblank
    else if p.dots ≤ 80 then p.mode = .oamScan
    else if p.dots ≤ 252 then p.mode = .draw
    else p.mode = .hblank
  else if p.ly.toNat = 144 ∧ p.dots = 0 then p.mode = .hblank
  else p.mode = .vblank

/-- The addresses of plain storage, whose bytes `State.mem` holds (20_memory.md R51). -/
def backed (n : Nat) : Bool :=
  decide (n ≤ 0x9FFF) || (decide (0xC000 ≤ n) && decide (n ≤ 0xDFFF)) || (decide (0xFE00 ≤ n) && decide (n ≤ 0xFE9F))
    || (decide (0xFF80 ≤ n) && decide (n ≤ 0xFFFE))

/-- What holds at reset and is kept by every system step (10_state.md R49, with the canonical form of memory and the request
lines the latch of 20_memory.md R66 leaves clear). -/
structure Inv (s : State) : Prop where
  flagsLow : s.cpu.f &&& 0x0F = 0
  delay : s.cpu.imeDelay ≤ 2
  line : s.ppu.ly.toNat ≤ 153
  dots : s.ppu.dots ≤ 455
  mirror : s.ppu.stat &&& 0x03 = modeCode s.ppu.mode
  window : WindowBound s.ppu
  sprites : s.ppu.sprites.length ≤ 10
  divider : s.timer.divRemainder < 64
  counter : timerEnabled s.timer.tac = true → s.timer.timaRemainder < timerPeriod s.timer.tac
  canonical : s.mem.wf = true
  storage : ∀ cell ∈ s.mem, backed cell.1 = true
  requests : s.ppu.vblankReq = false ∧ s.ppu.statReq = false ∧ s.timer.req = false

/-- The PPU's timing between system steps (60_exceptions.md R342, R343, R369): the position is in range and a multiple of 4
dots, and the mode is the one the position forces. -/
structure PpuTiming (s : State) : Prop where
  line : s.ppu.ly.toNat ≤ 153
  dots : s.ppu.dots ≤ 455
  aligned : s.ppu.dots % 4 = 0
  mode : ModeTimed s.ppu

/-- What the PPU and the timer own and no CPU step touches (60_exceptions.md R300; 10_state.md R31, R33, R38 to R45, R26,
R29). -/
structure DevicesHeld (s t : State) : Prop where
  mode : t.ppu.mode = s.ppu.mode
  dots : t.ppu.dots = s.ppu.dots
  line : t.ppu.ly = s.ppu.ly
  windowLine : t.ppu.windowLine = s.ppu.windowLine
  sprites : t.ppu.sprites = s.ppu.sprites
  bgIdx : t.ppu.bgIdx = s.ppu.bgIdx
  frame : t.ppu.fb = s.ppu.fb
  statLine : t.ppu.statLinePrev = s.ppu.statLinePrev
  ppuRequests : t.ppu.vblankReq = s.ppu.vblankReq ∧ t.ppu.statReq = s.ppu.statReq
  statLow : t.ppu.stat &&& 0x07 = s.ppu.stat &&& 0x07
  timerRequest : t.timer.req = s.timer.req
  timaRemainder : t.timer.timaRemainder = s.timer.timaRemainder
  frames : t.out.frames = s.out.frames

/-- The number of dots since the start of the frame (60_exceptions.md R344, R345). -/
def framePosition (p : Ppu) : Nat := 456 * p.ly.toNat + p.dots

end Machine

end Sys2Proof
end

