-- ==== Sys2Proof/Certificates/Slice0/Obligations.lean ====
section
/-! DEFINITION. The statements for the provers. Each docstring names the rule it formalises. -/

open Sys2Proof Sys2Proof.Machine

/-! ## Encoding -/

/-- Decoding the encoding of a well-formed instruction gives it back, every operand at every value, and leaves what follows
(30_encoding.md R91 to R96). -/
def Obligations.DecodeInvertsEncode : Prop :=
  ∀ i : Instr, i.wf = true → ∀ rest, decode (encode i ++ rest) = .ok (i, rest)

/-- Every byte string that decodes is the encoding of exactly the instruction it decodes to, which is well-formed
(30_encoding.md R94, R96). -/
def Obligations.EncodeInvertsDecode : Prop :=
  ∀ (bytes rest : List Byte) (i : Instr), decode bytes = .ok (i, rest) → i.wf = true ∧ encode i ++ rest = bytes

/-- Decoding takes exactly as many bytes as the first byte says (the table of 30_encoding.md R98, `lengthOfFirst`), fails
only where they are not all there, and so never fails on enough bytes (R101). -/
def Obligations.DecodingTakesTheLengthOfTheFirstByte : Prop :=
  ∀ (op : Byte) (rest : List Byte),
    (lengthOfFirst op ≤ rest.length + 1 →
      ∃ i, decode (op :: rest) = .ok (i, rest.drop (lengthOfFirst op - 1)) ∧ (encode i).length = lengthOfFirst op)
    ∧ (rest.length + 1 < lengthOfFirst op → decode (op :: rest) = .error .missingOperand)

/-- A few words written out from the maps of 30_encoding.md R94 and R96. -/
def Obligations.WordsFromTheMapsDecode : Prop :=
  decode [0x41] = .ok (.ldBC, []) ∧ decode [0x3E, 0x0F] = .ok (.ldAD8 0x0F, []) ∧ decode [0x76] = .ok (.halt, [])
    ∧ decode [0x21, 0x34, 0xC0] = .ok (.ldHlD16 0xC034, []) ∧ decode [0xD9] = .ok (.reti, [])
    ∧ decode [0xDC, 0x00, 0x03] = .ok (.callCA16 0x0300, []) ∧ decode [0xF5] = .ok (.pushAf, [])
    ∧ decode [0xCB, 0x7E] = .ok (.bitMemHl 7, []) ∧ decode [0xCB, 0x87] = .ok (.resA 0, [])
    ∧ decode [0xCB, 0x33] = .ok (.swapE, []) ∧ decode [0xD3] = .ok (.illegalD3, [])
    ∧ decode [0x10, 0x55] = .ok (.stop 0x55, []) ∧ decode [0x9E] = .ok (.sbcAMemHl, [])

/-! ## The step -/

/-- When the CPU is not halted and no interrupt is to be dispatched, a step whose bytes at PC encode a well-formed
instruction is that instruction's `exec`, from the state whose EI delay is resolved and whose PC has passed the bytes,
followed by the PPU, the timer and the latch for the M-cycles it took (60_exceptions.md R300, R301; the order within the step
is decision D2). -/
def Obligations.StepRunsTheDecodedInstruction : Prop :=
  ∀ (s : State) (i : Instr), s.cpu.halted = false → dispatched (resolveImeDelay s) = none → i.wf = true →
    (∀ k (h : k < (encode i).length), busRead s (s.cpu.pc + BitVec.ofNat 16 k) = (encode i)[k]) →
    step s =
      match exec i ((resolveImeDelay s).setPc (s.cpu.pc + BitVec.ofNat 16 (encode i).length)) with
      | .next t => .next (latch (timerTick t.cpu.cycles (ppuTick t.cpu.cycles t)))
      | .fault f => .fault f
      | .refused r => .refused r

/-- From every state whatever the machine steps to a next state; the CPU step takes 1 to 6 M-cycles, and the PPU, the timer
and the latch follow it by that count (60_exceptions.md R300, R315, R316). -/
def Obligations.EveryStateStepsInOneToSixCycles : Prop :=
  ∀ s : State, ∃ t, cpuStep s = .next t ∧ 1 ≤ t.cpu.cycles ∧ t.cpu.cycles ≤ 6
    ∧ step s = .next (latch (timerTick t.cpu.cycles (ppuTick t.cpu.cycles t)))

/-- No CPU step, whether an instruction, a dispatch or a halted cycle, touches what the PPU and the timer own: the mode, the
position, the drawing state, the request lines, STAT's low bits and TIMA's remainder (60_exceptions.md R300, 10_state.md R26,
R31, R33). Choices it rests on: that a CPU write leaves LY and STAT's bits 2 to 0 as they are is the spec's decision D17 (log
entry 16), and that a write to TIMA, TMA or TAC leaves TIMA's remainder is its decision D27 (log entry 11). -/
def Obligations.CpuStepHoldsTheDevices : Prop :=
  ∀ s t : State, cpuStep s = .next t → DevicesHeld s t

/-- Only HALT sets or clears `halted` among the instructions, only DI and RETI change IME, and only DI and EI change
`ime_delay` (10_state.md R16, R17, R18; RETI's setting IME at once is decision D6). -/
def Obligations.OnlyTheirWritersChangeTheControlBits : Prop :=
  ∀ (i : Instr) (s t : State), exec i s = .next t →
    (t.cpu.halted ≠ s.cpu.halted → i = .halt) ∧ (t.cpu.ime ≠ s.cpu.ime → i = .di ∨ i = .reti)
      ∧ (t.cpu.imeDelay ≠ s.cpu.imeDelay → i = .di ∨ i = .ei)

/-! ## Reset and invariants -/

/-- At reset, whatever the memories and the cartridge hold, the thirteen values the document gives stand, PC is the entry
point, and the ROM area reads the cartridge (70_reset_and_hazards.md R401). -/
def Obligations.ResetGivesTheDocumentedValues : Prop :=
  ∀ (mem : Memory) (fb : FrameBuffer) (cart : Cart) (s : State), s = State.resetWith mem fb cart →
    s.cpu.a = 0x01 ∧ s.cpu.f = 0xB0 ∧ s.cpu.b = 0x00 ∧ s.cpu.c = 0x13 ∧ s.cpu.d = 0x00 ∧ s.cpu.e = 0xD8 ∧ s.cpu.h = 0x01
      ∧ s.cpu.l = 0x4D ∧ s.cpu.sp = 0xFFFE ∧ s.cpu.pc = 0x0100 ∧ s.ppu.lcdc = 0x91 ∧ s.ppu.stat = 0x81 ∧ s.ppu.bgp = 0xFC
      ∧ (∀ a : Addr, a.toNat ≤ 0x7FFF → busRead s a = cartRead s a)

/-- At reset the rest is zero, off or empty and the mode VBLANK: the spec's decision D16 (10_state.md R48; log entry 5). The
memories and the cartridge are parameters; `State.reset` takes them blank (log entries 2, 3, 4). -/
def Obligations.ResetGivesTheDecidedValues : Prop :=
  ∀ (mem : Memory) (fb : FrameBuffer) (cart : Cart) (s : State), s = State.resetWith mem fb cart →
    s.cpu.ime = false ∧ s.cpu.imeDelay = 0 ∧ s.cpu.halted = false ∧ s.bus.ieReg = 0 ∧ s.bus.ifReg = 0 ∧ s.bus.sb = 0
      ∧ s.bus.sc = 0 ∧ s.timer.div = 0 ∧ s.timer.divRemainder = 0 ∧ s.timer.tima = 0 ∧ s.timer.timaRemainder = 0
      ∧ s.timer.tma = 0 ∧ s.timer.tac = 0 ∧ s.timer.req = false ∧ s.ppu.scy = 0 ∧ s.ppu.scx = 0 ∧ s.ppu.ly = 0
      ∧ s.ppu.lyc = 0 ∧ s.ppu.dma = 0 ∧ s.ppu.obp0 = 0 ∧ s.ppu.obp1 = 0 ∧ s.ppu.wy = 0 ∧ s.ppu.wx = 0
      ∧ s.ppu.mode = .vblank ∧ s.ppu.dots = 0 ∧ s.ppu.windowLine = 0 ∧ s.ppu.sprites = [] ∧ s.ppu.statLinePrev = false
      ∧ s.ppu.vblankReq = false ∧ s.ppu.statReq = false ∧ s.mem = mem ∧ s.ppu.fb = fb ∧ s.cart = cart

/-- The invariants hold at reset, for every canonical content of the memories, every frame buffer and every cartridge, and so
of `State.reset` (10_state.md R49). -/
def Obligations.InvariantsHoldAtReset : Prop :=
  (∀ (mem : Memory) (fb : FrameBuffer) (cart : Cart), mem.wf = true → (∀ cell ∈ mem, backed cell.1 = true) →
      Inv (State.resetWith mem fb cart) ∧ PpuTiming (State.resetWith mem fb cart))
    ∧ Inv State.reset ∧ PpuTiming State.reset

/-- Every system step keeps the invariant, from every state that has it (10_state.md R49). -/
def Obligations.EveryStepKeepsTheInvariant : Prop :=
  ∀ s t : State, Inv s → step s = .next t → Inv t

/-- Every system step keeps the PPU's timing: the position in range and a multiple of four dots, the mode the one the
position forces (60_exceptions.md R342, R343, R344, R345, R369). -/
def Obligations.EveryStepKeepsThePpuTiming : Prop :=
  ∀ s t : State, PpuTiming s → step s = .next t → PpuTiming t

/-- The canonical form of memory: a read after a write gives the byte written at that address and the old byte elsewhere,
whatever the list; a write keeps the form; and two canonical memories that read alike at every address are the same list (the
bytes of 10_state.md R21, R22, R23; the form and what an unlisted address reads as are log entry 3). -/
def Obligations.MemoryReadsBackAndHasOneCanonicalForm : Prop :=
  (∀ (m : Memory) (a b : Nat) (v : Byte),
      (m.write a v).read b = (if b = a then v else m.read b) ∧ (m.wf = true → (m.write a v).wf = true))
    ∧ ∀ m n : Memory, m.wf = true → n.wf = true → (∀ a, m.read a = n.read a) → m = n

/-! ## Interrupts, the halted state, the EI delay -/

/-- A step that begins halted clears `halted` if IE & IF & 0x1F is not zero, takes one M-cycle, fetches nothing and
dispatches nothing (60_exceptions.md R302, decisions D3 and D4); and with no source enabled it stays halted with every CPU
register and all of memory as they were (R321, 70_reset_and_hazards.md R423). -/
def Obligations.HaltedStepsOnlyWaitForAnEnabledRequest : Prop :=
  ∀ s : State, s.cpu.halted = true →
    step s =
        .next (latch (timerTick 1 (ppuTick 1
          { s with cpu.halted := decide (s.bus.ieReg &&& s.bus.ifReg &&& 0x1F = 0), cpu.cycles := 1 })))
      ∧ (s.bus.ieReg &&& 0x1F = 0 → ∀ t, step s = .next t →
          t.cpu = { s.cpu with cycles := 1 } ∧ t.bus.ieReg = s.bus.ieReg ∧ t.mem = s.mem)

/-- The EI delay at the start of a step that is not halted (60_exceptions.md R303, 47_system.md R264; decisions D5, D6): from
2 it goes to 1 and, IME being off, the next instruction runs whatever is pending; from 1 it goes to 0 and IME is on in time
for this step's interrupt test; at 0 nothing changes. -/
def Obligations.EnableDelayLetsOneInstructionRun : Prop :=
  ∀ s : State, s.cpu.halted = false →
    (s.cpu.imeDelay = 2 → s.cpu.ime = false → cpuStep s = runInstruction { s with cpu.imeDelay := 1 })
      ∧ (s.cpu.imeDelay = 1 → pending s = 0 → cpuStep s = runInstruction { s with cpu.imeDelay := 0, cpu.ime := true })
      ∧ (s.cpu.imeDelay = 1 → pending s ≠ 0 →
          ∃ i, firstSource (pending s) = some i
            ∧ cpuStep s = .next (takeInterrupt i { s with cpu.imeDelay := 0, cpu.ime := true }))
      ∧ (s.cpu.imeDelay = 0 → s.cpu.ime = false → cpuStep s = runInstruction s)

/-- Interrupt dispatch (60_exceptions.md R304, R305, R306, R307). `d` is the state after the EI delay is handled. If IME is
on and bit `n` is the lowest set bit of IE & IF & 0x1F, the step pushes PC, goes to 0x0040 + 8 n, clears that bit of IF, IME
and `halted`, takes 5 M-cycles, leaves every other register, and every byte outside the two pushed reads as before (IF
apart). Otherwise it fetches and runs an instruction. -/
def Obligations.LowestEnabledRequestIsDispatched : Prop :=
  ∀ (s d : State), s.cpu.halted = false → d = resolveImeDelay s →
    (∀ n : Nat, n < 5 → d.cpu.ime = true → (d.bus.ieReg &&& d.bus.ifReg).getLsbD n = true →
        (∀ m, m < n → (d.bus.ieReg &&& d.bus.ifReg).getLsbD m = false) →
        ∃ t, cpuStep s = .next t
          ∧ t = { pushWrites d d.cpu.pc with
              cpu := { d.cpu with
                sp := d.cpu.sp - 2, pc := BitVec.ofNat 16 (0x0040 + 8 * n), ime := false, halted := false, cycles := 5 }
              bus.ifReg := (pushWrites d d.cpu.pc).bus.ifReg &&& ~~~ (1 <<< n : Byte) }
          ∧ ∀ a, a ≠ 0xFF0F → ¬ StoreReaches d (d.cpu.sp - 1) a → ¬ StoreReaches d (d.cpu.sp - 2) a →
              busRead t a = busRead s a)
      ∧ (d.cpu.ime = false ∨ d.bus.ieReg &&& d.bus.ifReg &&& 0x1F = 0 → cpuStep s = runInstruction d)

/-- IF's three kinds of writer (20_memory.md R66, decision D28): the CPU at 0xFF0F, all 8 bits; the dispatch, the serviced
bit; the latch, which sets a bit for each request line, never clears one, and clears the lines. -/
def Obligations.InterruptFlagWriters : Prop :=
  ∀ s : State,
    (∀ v, busWrite s 0xFF0F v = { s with bus.ifReg := v })
      ∧ (∀ i : Interrupt, (takeInterrupt i s).bus.ifReg = (push16 s.cpu.pc s).bus.ifReg &&& ~~~ (1 <<< i.index : Byte))
      ∧ (latch s =
          { s with
            bus.ifReg := (latch s).bus.ifReg, ppu.vblankReq := false, ppu.statReq := false, timer.req := false }
        ∧ ∀ n, (latch s).bus.ifReg.getLsbD n =
            (s.bus.ifReg.getLsbD n || (n == 0 && s.ppu.vblankReq) || (n == 1 && s.ppu.statReq) || (n == 2 && s.timer.req)))

/-! ## The timer -/

/-- No M-cycle is lost between ticks: ticking by `m` and then by `n` is ticking by `m + n`, for the divider, the counter and
the request line alike (60_exceptions.md R331, R332; that TIMA's periods count M-cycles is decision D1). -/
def Obligations.TimerTicksAddUp : Prop :=
  ∀ (m n : Nat) (t : Timer), tickTimer n (tickTimer m t) = tickTimer (m + n) t

/-- The divider over one CPU step's cycles (60_exceptions.md R331), and its clearing by a write to 0xFF04 (20_memory.md R60):
the loop body runs at most once. -/
def Obligations.DividerCountsEverySixtyFourCycles : Prop :=
  ∀ (n : Nat) (s : State), n ≤ 6 → s.timer.divRemainder < 64 →
    (tickTimer n s.timer).div
        = (if s.timer.divRemainder + n < 64 then s.timer.div else BitVec.ofNat 8 ((s.timer.div.toNat + 1) % 256))
      ∧ (tickTimer n s.timer).divRemainder
        = (if s.timer.divRemainder + n < 64 then s.timer.divRemainder + n else s.timer.divRemainder + n - 64)
      ∧ ∀ v, (busWrite s 0xFF04 v).timer.div = 0 ∧ (busWrite s 0xFF04 v).timer.divRemainder = 0

/-- TIMA over a tick of any length, in closed form (60_exceptions.md R332, R333; decisions D1, D27): stopped, it holds;
running, it gains one a period, and each overflow past 0xFF reloads it from TMA and raises the request. `p` is the period,
`k` the increments. -/
def Obligations.CounterReloadsFromTmaOnOverflow : Prop :=
  ∀ (n p k : Nat) (t : Timer), p = timerPeriod t.tac → k = (t.timaRemainder + n) / p →
    (t.tac.getLsbD 2 = false →
        (tickTimer n t).tima = t.tima ∧ (tickTimer n t).timaRemainder = t.timaRemainder ∧ (tickTimer n t).req = t.req)
      ∧ (t.tac.getLsbD 2 = true →
        (tickTimer n t).timaRemainder = (t.timaRemainder + n) % p
          ∧ (t.tima.toNat + k ≤ 255 → (tickTimer n t).tima.toNat = t.tima.toNat + k ∧ (tickTimer n t).req = t.req)
          ∧ (255 < t.tima.toNat + k →
              (tickTimer n t).tima.toNat = t.tma.toNat + (t.tima.toNat + k - 256) % (256 - t.tma.toNat)
                ∧ (tickTimer n t).req = true))

/-! ## The bus -/

/-- VRAM, WRAM, OAM, HRAM and IE, read and written (20_memory.md R55, R62, R63, and R53 and R57 for what a CPU access finds):
the two locks by mode, and the stored byte read back. -/
def Obligations.StorageRegionsObeyTheirLocks : Prop :=
  ∀ (s : State) (a : Addr) (v : Byte),
    (0x8000 ≤ a.toNat → a.toNat ≤ 0x9FFF →
        (s.ppu.mode = .draw → busRead s a = 0xFF ∧ busWrite s a v = s)
          ∧ (s.ppu.mode ≠ .draw → busRead s a = s.mem.read a.toNat
              ∧ busWrite s a v = { s with mem := s.mem.write a.toNat v } ∧ busRead (busWrite s a v) a = v))
      ∧ (0xFE00 ≤ a.toNat → a.toNat ≤ 0xFE9F →
        (s.ppu.mode = .draw ∨ s.ppu.mode = .oamScan → busRead s a = 0xFF ∧ busWrite s a v = s)
          ∧ (s.ppu.mode = .hblank ∨ s.ppu.mode = .vblank → busRead s a = s.mem.read a.toNat
              ∧ busWrite s a v = { s with mem := s.mem.write a.toNat v } ∧ busRead (busWrite s a v) a = v))
      ∧ ((0xC000 ≤ a.toNat ∧ a.toNat ≤ 0xDFFF) ∨ (0xFF80 ≤ a.toNat ∧ a.toNat ≤ 0xFFFE) →
        busRead s a = s.mem.read a.toNat ∧ busWrite s a v = { s with mem := s.mem.write a.toNat v }
          ∧ busRead (busWrite s a v) a = v)
      ∧ (a = 0xFFFF → busRead s a = s.bus.ieReg ∧ busWrite s a v = { s with bus.ieReg := v })

/-- The cartridge's two ranges, with the default cartridge and with any other, and the ranges nobody owns: echo, unusable and
unmapped I/O read 0xFF and ignore writes (20_memory.md R52, R54, R56, R58, R61; decisions D13, D14, D26). -/
def Obligations.CartridgeAndUnownedRegions : Prop :=
  ∀ (s : State) (a : Addr) (v : Byte),
    (a.toNat ≤ 0x7FFF ∨ (0xA000 ≤ a.toNat ∧ a.toNat ≤ 0xBFFF) →
        (s.cart = .flatRom →
            busWrite s a v = s ∧ busRead s a = (if a.toNat ≤ 0x7FFF then s.mem.read a.toNat else 0xFF))
          ∧ (∀ inner, s.cart = .attached inner →
            busRead s a = Config.cartRead inner a
              ∧ busWrite s a v = { s with cart := .attached (Config.cartWrite inner a v) }))
      ∧ ((0xE000 ≤ a.toNat ∧ a.toNat ≤ 0xFDFF) ∨ (0xFEA0 ≤ a.toNat ∧ a.toNat ≤ 0xFEFF) ∨ a.toNat = 0xFF00
          ∨ a.toNat = 0xFF03 ∨ (0xFF08 ≤ a.toNat ∧ a.toNat ≤ 0xFF0E) ∨ (0xFF10 ≤ a.toNat ∧ a.toNat ≤ 0xFF3F)
          ∨ (0xFF4C ≤ a.toNat ∧ a.toNat ≤ 0xFF7F) →
        busRead s a = 0xFF ∧ busWrite s a v = s)

/-- Every I/O register, read and written, but for the DMA transfer (20_memory.md R59, R60; LY read-only is decision D17, LYC
not compared by a write D21). -/
def Obligations.IoRegistersReadAndWrite : Prop :=
  ∀ (s : State) (v : Byte),
    (busRead s 0xFF01 = s.bus.sb ∧ busWrite s 0xFF01 v = { s with bus.sb := v })
      ∧ (busRead s 0xFF02 = s.bus.sc ∧ busWrite s 0xFF02 v = { s with bus.sc := v })
      ∧ (busRead s 0xFF04 = s.timer.div ∧ busWrite s 0xFF04 v = { s with timer.div := 0, timer.divRemainder := 0 })
      ∧ (busRead s 0xFF05 = s.timer.tima ∧ busWrite s 0xFF05 v = { s with timer.tima := v })
      ∧ (busRead s 0xFF06 = s.timer.tma ∧ busWrite s 0xFF06 v = { s with timer.tma := v })
      ∧ (busRead s 0xFF07 = s.timer.tac ∧ busWrite s 0xFF07 v = { s with timer.tac := v })
      ∧ (busRead s 0xFF0F = s.bus.ifReg ∧ busWrite s 0xFF0F v = { s with bus.ifReg := v })
      ∧ (busRead s 0xFF40 = s.ppu.lcdc ∧ busWrite s 0xFF40 v = { s with ppu.lcdc := v })
      ∧ (busRead s 0xFF41 = s.ppu.stat
        ∧ busWrite s 0xFF41 v = { s with ppu.stat := (s.ppu.stat &&& 0x07) ||| (v &&& 0xF8) })
      ∧ (busRead s 0xFF42 = s.ppu.scy ∧ busWrite s 0xFF42 v = { s with ppu.scy := v })
      ∧ (busRead s 0xFF43 = s.ppu.scx ∧ busWrite s 0xFF43 v = { s with ppu.scx := v })
      ∧ (busRead s 0xFF44 = s.ppu.ly ∧ busWrite s 0xFF44 v = s)
      ∧ (busRead s 0xFF45 = s.ppu.lyc ∧ busWrite s 0xFF45 v = { s with ppu.lyc := v })
      ∧ (busRead s 0xFF46 = s.ppu.dma ∧ (busWrite s 0xFF46 v).ppu = { s.ppu with dma := v })
      ∧ (busRead s 0xFF47 = s.ppu.bgp ∧ busWrite s 0xFF47 v = { s with ppu.bgp := v })
      ∧ (busRead s 0xFF48 = s.ppu.obp0 ∧ busWrite s 0xFF48 v = { s with ppu.obp0 := v })
      ∧ (busRead s 0xFF49 = s.ppu.obp1 ∧ busWrite s 0xFF49 v = { s with ppu.obp1 := v })
      ∧ (busRead s 0xFF4A = s.ppu.wy ∧ busWrite s 0xFF4A v = { s with ppu.wy := v })
      ∧ (busRead s 0xFF4B = s.ppu.wx ∧ busWrite s 0xFF4B v = { s with ppu.wx := v })

/-- A write to the DMA register copies 160 bytes into OAM, each what the bus read at its source address before any of them
was copied, whatever the OAM lock; nothing else changes (20_memory.md R71, decision D25). -/
def Obligations.DmaCopiesOneHundredAndSixtyBytes : Prop :=
  ∀ (s d : State) (v : Byte), d = { s with ppu.dma := v } →
    busWrite s 0xFF46 v = { d with mem := (busWrite s 0xFF46 v).mem }
      ∧ (∀ i, i < 160 → (busWrite s 0xFF46 v).mem.read (0xFE00 + i) = busRead d (BitVec.ofNat 16 (256 * v.toNat + i)))
      ∧ (∀ n, n < 0xFE00 ∨ 0xFE9F < n → (busWrite s 0xFF46 v).mem.read n = s.mem.read n)

/-- A store leaves every byte it does not reach reading as before, over the whole address space (20_memory.md R51, R65,
R70). -/
def Obligations.StoresChangeOnlyWhatTheyReach : Prop :=
  ∀ (s : State) (addr a : Addr) (v : Byte), ¬ StoreReaches s addr a → busRead (busWrite s addr v) a = busRead s a

/-! ## The PPU -/

/-- Every dot step mirrors the mode in STAT, recomputes the coincidence bit exactly when LY changes, keeps STAT's other bits,
computes the STAT line and raises the request on its rising edge only, and raises the VBLANK request at line 144, dot 1
(60_exceptions.md R343, R346, R347, R348, R349; the coincidence bit at LY changes only is decision D21). -/
def Obligations.DotStepMirrorsTheModeAndDetectsTheEdge : Prop :=
  ∀ (s : State) (p q : Ppu) (line : Bool), p = s.ppu → q = (dotStep s).ppu →
    line = ((q.stat.getLsbD 6 && q.stat.getLsbD 2) || (q.stat.getLsbD 5 && decide (q.mode = .oamScan))
      || (q.stat.getLsbD 4 && decide (q.mode = .vblank)) || (q.stat.getLsbD 3 && decide (q.mode = .hblank))) →
    q.stat &&& 0x03 = modeCode q.mode ∧ q.stat &&& 0xF8 = p.stat &&& 0xF8
      ∧ q.stat.getLsbD 2 = (if p.dots = 455 then decide (q.ly = q.lyc) else p.stat.getLsbD 2)
      ∧ q.statLinePrev = line ∧ q.statReq = (p.statReq || (line && !p.statLinePrev))
      ∧ q.vblankReq = (p.vblankReq || decide (p.ly = 144 ∧ p.dots = 0))

/-- Over any number of dots the position advances by one a dot modulo the 70224 of a frame and one frame is output each time
it wraps (60_exceptions.md R344, R345); the frame output at the end of line 153 is the buffer as it stands, which is not
cleared (R368). -/
def Obligations.FramesAreOutputEverySeventyThousandDots : Prop :=
  (∀ (k : Nat) (s : State), s.ppu.ly.toNat ≤ 153 → s.ppu.dots ≤ 455 →
      framePosition (dotSteps k s).ppu = (framePosition s.ppu + k) % 70224
        ∧ (dotSteps k s).ppu.ly.toNat ≤ 153 ∧ (dotSteps k s).ppu.dots ≤ 455
        ∧ (dotSteps k s).out.frames.length = s.out.frames.length + (framePosition s.ppu + k) / 70224)
    ∧ ∀ s : State, s.ppu.ly = 153 → s.ppu.dots = 455 →
        (dotStep s).out.frames = s.ppu.fb :: s.out.frames ∧ (dotStep s).ppu.fb = s.ppu.fb

/-- The sprite scan (60_exceptions.md R352, its order among equal X decision D22): the buffer holds exactly the OAM entries
that cover the line and have fewer than ten covering entries before them, by descending X and, of equal X, descending index;
it runs at the first dot of a visible line. -/
def Obligations.SpriteScanKeepsTheFirstTenInDrawOrder : Prop :=
  (∀ (mem : Memory) (p : Ppu),
      spriteScan mem p = { p with sprites := (spriteScan mem p).sprites }
        ∧ (spriteScan mem p).sprites.length ≤ 10
        ∧ (spriteScan mem p).sprites.Pairwise
            (fun e o => o.x.toNat < e.x.toNat ∨ (e.x = o.x ∧ o.idx < e.idx))
        ∧ ∀ e, e ∈ (spriteScan mem p).sprites ↔
            ∃ i, i < 40 ∧ e = oamEntry mem i ∧ spriteCovers p e = true
              ∧ ((List.range i).filter (fun j => spriteCovers p (oamEntry mem j))).length < 10)
    ∧ ∀ s : State, s.ppu.ly.toNat ≤ 143 → s.ppu.dots = 0 →
        (dotStep s).ppu.sprites = (spriteScan s.mem s.ppu).sprites

/-- The scanline draw (60_exceptions.md R359 to R367): every pixel of row LY is the shade of the last sprite of the buffer
that shows there, or of the window or background; every other row, and everything but `bg_idx` and the window's line counter,
is unchanged; the counter advances exactly on lines with a window pixel; the draw happens at dot 81 of a visible line
(decisions D19, D22, D23, D24, D33). -/
def Obligations.ScanlineDrawsEveryPixel : Prop :=
  (∀ (mem : Memory) (p : Ppu), p.ly.toNat ≤ 143 →
      (∀ x, x < 160 → ∃ row shade, (drawScanline mem p).fb[p.ly.toNat]? = some row ∧ row[x]? = some shade
          ∧ shade.toNat = finishedShade mem p x)
        ∧ (∀ y, y ≠ p.ly.toNat → (drawScanline mem p).fb[y]? = p.fb[y]?)
        ∧ drawScanline mem p =
            { p with
              fb := (drawScanline mem p).fb
              bgIdx := (drawScanline mem p).bgIdx
              windowLine := p.windowLine + (if inWindow p 159 then 1 else 0) })
    ∧ ∀ s : State, s.ppu.ly.toNat ≤ 143 → s.ppu.dots = 80 → (dotStep s).ppu.fb = (drawScanline s.mem s.ppu).fb

/-! ## Registers -/

/-- The register file and its views (10_state.md R10, R11, R12): each register is its own, a write to one leaves the others
and everything outside the CPU, the first-named half of a pair is the high byte, a write to AF masks F's low nibble, and
writing back what a pair reads changes nothing. The pairs PUSH and POP name are written as the pairs the other instructions
name, and an operand is read from the register it names, from the byte at HL, or from the instruction itself. -/
def Obligations.RegistersAndPairsAreViewsOfOneFile : Prop :=
  ∀ s : State,
    (s.getR8 .A = s.cpu.a ∧ s.getR8 .B = s.cpu.b ∧ s.getR8 .C = s.cpu.c ∧ s.getR8 .D = s.cpu.d ∧ s.getR8 .E = s.cpu.e
        ∧ s.getR8 .H = s.cpu.h ∧ s.getR8 .L = s.cpu.l)
      ∧ (∀ (d r : R8) (v : Byte), (s.setR8 d v).getR8 r = (if r = d then v else s.getR8 r))
      ∧ (∀ (d : R8) (v : Byte),
          s.setR8 d v =
            { s with
              cpu := { (s.setR8 d v).cpu with
                f := s.cpu.f, sp := s.cpu.sp, pc := s.cpu.pc, ime := s.cpu.ime, imeDelay := s.cpu.imeDelay
                halted := s.cpu.halted, cycles := s.cpu.cycles } })
      ∧ (s.bc.toNat = 256 * s.cpu.b.toNat + s.cpu.c.toNat ∧ s.de.toNat = 256 * s.cpu.d.toNat + s.cpu.e.toNat
        ∧ s.hl.toNat = 256 * s.cpu.h.toNat + s.cpu.l.toNat ∧ s.af.toNat = 256 * s.cpu.a.toNat + s.cpu.f.toNat)
      ∧ (s.getR16 .BC = s.bc ∧ s.getR16 .DE = s.de ∧ s.getR16 .HL = s.hl ∧ s.getR16 .SP = s.cpu.sp
        ∧ s.getR16Stk .BC = s.bc ∧ s.getR16Stk .DE = s.de ∧ s.getR16Stk .HL = s.hl ∧ s.getR16Stk .AF = s.af)
      ∧ (∀ v : Addr,
          s.setR16 .BC v = { s with cpu.b := BitVec.ofNat 8 (v.toNat / 256), cpu.c := BitVec.ofNat 8 (v.toNat % 256) }
            ∧ s.setR16 .DE v = { s with cpu.d := BitVec.ofNat 8 (v.toNat / 256), cpu.e := BitVec.ofNat 8 (v.toNat % 256) }
            ∧ s.setR16 .HL v = { s with cpu.h := BitVec.ofNat 8 (v.toNat / 256), cpu.l := BitVec.ofNat 8 (v.toNat % 256) }
            ∧ s.setR16 .SP v = { s with cpu.sp := v }
            ∧ s.setHl v = s.setR16 .HL v
            ∧ s.setR16Stk .BC v = s.setR16 .BC v ∧ s.setR16Stk .DE v = s.setR16 .DE v ∧ s.setR16Stk .HL v = s.setR16 .HL v
            ∧ s.setR16Stk .AF v =
              { s with cpu.a := BitVec.ofNat 8 (v.toNat / 256), cpu.f := BitVec.ofNat 8 (v.toNat % 256) &&& 0xF0 })
      ∧ ((∀ r : R8, getLoc s (.reg r) = s.getR8 r) ∧ getLoc s .memHl = busRead s s.hl
        ∧ (∀ l : Loc, getSource s (.loc l) = getLoc s l) ∧ ∀ v : Byte, getSource s (.imm v) = v)
      ∧ (∀ p : R16, s.setR16 p (s.getR16 p) = s)
      ∧ (s.cpu.f &&& 0x0F = 0 → ∀ p : R16Stk, s.setR16Stk p (s.getR16Stk p) = s)

/-! ## 8-bit loads -/

/-- LD r,r'; LD r,d8; LD r,(HL) (40_loads_8bit.md R121, R122, R123). -/
def Obligations.LoadsIntoRegisters : Prop :=
  ∀ (s : State) (d r : R8) (v : Byte),
    (EncodedAs (Form.load d r) [0x40 + 8 * d.code + r.code]
        ∧ RegistersOnly (Form.load d r) s { (s.setR8 d (s.getR8 r)).cpu with cycles := 1 })
      ∧ (EncodedAs (Form.loadImm d v) [0x06 + 8 * d.code, v]
        ∧ RegistersOnly (Form.loadImm d v) s { (s.setR8 d v).cpu with cycles := 2 })
      ∧ (EncodedAs (Form.loadFromHl d) [0x46 + 8 * d.code]
        ∧ RegistersOnly (Form.loadFromHl d) s { (s.setR8 d (busRead s s.hl)).cpu with cycles := 2 })

/-- LD (HL),r and LD (HL),d8 (40_loads_8bit.md R124, R125). -/
def Obligations.StoresAtHl : Prop :=
  ∀ (s : State) (r : R8) (v : Byte),
    (EncodedAs (Form.storeAtHl r) [0x70 + r.code]
        ∧ StoresByte (Form.storeAtHl r) s s.hl (s.getR8 r) { s.cpu with cycles := 2 })
      ∧ (EncodedAs (.ldMemHlD8 v) [0x36, v] ∧ StoresByte (.ldMemHlD8 v) s s.hl v { s.cpu with cycles := 3 })

/-- LD A,(BC); LD A,(DE); LD A,(a16); LDH A,(a8); LD A,(C) (40_loads_8bit.md R126, R127, R130, R132, R134). -/
def Obligations.LoadsOfTheAccumulator : Prop :=
  ∀ (s : State) (a : Addr) (n : Byte),
    (EncodedAs .ldAMemBc [0x0A] ∧ RegistersOnly .ldAMemBc s { s.cpu with a := busRead s s.bc, cycles := 2 })
      ∧ (EncodedAs .ldAMemDe [0x1A] ∧ RegistersOnly .ldAMemDe s { s.cpu with a := busRead s s.de, cycles := 2 })
      ∧ (EncodedAs (.ldAMemA16 a) [0xFA, a.extractLsb' 0 8, a.extractLsb' 8 8]
        ∧ RegistersOnly (.ldAMemA16 a) s { s.cpu with a := busRead s a, cycles := 4 })
      ∧ (EncodedAs (.ldhAMemA8 n) [0xF0, n]
        ∧ RegistersOnly (.ldhAMemA8 n) s { s.cpu with a := busRead s (BitVec.ofNat 16 (0xFF00 + n.toNat)), cycles := 3 })
      ∧ (EncodedAs .ldAMemC [0xF2]
        ∧ RegistersOnly .ldAMemC s
            { s.cpu with a := busRead s (BitVec.ofNat 16 (0xFF00 + s.cpu.c.toNat)), cycles := 2 })

/-- LD (BC),A; LD (DE),A; LD (a16),A; LDH (a8),A; LD (C),A (40_loads_8bit.md R128, R129, R131, R133, R135). -/
def Obligations.StoresOfTheAccumulator : Prop :=
  ∀ (s : State) (a : Addr) (n : Byte),
    (EncodedAs .ldMemBcA [0x02] ∧ StoresByte .ldMemBcA s s.bc s.cpu.a { s.cpu with cycles := 2 })
      ∧ (EncodedAs .ldMemDeA [0x12] ∧ StoresByte .ldMemDeA s s.de s.cpu.a { s.cpu with cycles := 2 })
      ∧ (EncodedAs (.ldMemA16A a) [0xEA, a.extractLsb' 0 8, a.extractLsb' 8 8]
        ∧ StoresByte (.ldMemA16A a) s a s.cpu.a { s.cpu with cycles := 4 })
      ∧ (EncodedAs (.ldhMemA8A n) [0xE0, n]
        ∧ StoresByte (.ldhMemA8A n) s (BitVec.ofNat 16 (0xFF00 + n.toNat)) s.cpu.a { s.cpu with cycles := 3 })
      ∧ (EncodedAs .ldMemCA [0xE2]
        ∧ StoresByte .ldMemCA s (BitVec.ofNat 16 (0xFF00 + s.cpu.c.toNat)) s.cpu.a { s.cpu with cycles := 2 })

/-- LD (HL+),A; LD (HL-),A; LD A,(HL+); LD A,(HL-): the access at the old HL, then HL moves by one modulo 2^16
(40_loads_8bit.md R136, R137, R138, R139). -/
def Obligations.LoadsAndStoresThatMoveHl : Prop :=
  ∀ (s : State) (up down : Addr), up.toNat = (s.hl.toNat + 1) % 65536 → down.toNat = (s.hl.toNat + 65535) % 65536 →
    (EncodedAs .ldMemHlIncA [0x22] ∧ StoresByte .ldMemHlIncA s s.hl s.cpu.a { (s.setHl up).cpu with cycles := 2 })
      ∧ (EncodedAs .ldMemHlDecA [0x32] ∧ StoresByte .ldMemHlDecA s s.hl s.cpu.a { (s.setHl down).cpu with cycles := 2 })
      ∧ (EncodedAs .ldAMemHlInc [0x2A]
        ∧ RegistersOnly .ldAMemHlInc s { (s.setHl up).cpu with a := busRead s s.hl, cycles := 2 })
      ∧ (EncodedAs .ldAMemHlDec [0x3A]
        ∧ RegistersOnly .ldAMemHlDec s { (s.setHl down).cpu with a := busRead s s.hl, cycles := 2 })

/-! ## 16-bit loads and the stack -/

/-- LD rr,d16 with the low byte first; LD SP,HL; LD (a16),SP with the low byte at the lower address, wrapping
(41_loads_16bit_stack.md R150, R151, R152). -/
def Obligations.SixteenBitLoads : Prop :=
  ∀ (s : State) (p : R16) (v a : Addr),
    (EncodedAs (Form.loadPair p v) [0x01 + 16 * p.code, v.extractLsb' 0 8, v.extractLsb' 8 8]
        ∧ RegistersOnly (Form.loadPair p v) s { (s.setR16 p v).cpu with cycles := 3 })
      ∧ (EncodedAs .ldSpHl [0xF9] ∧ RegistersOnly .ldSpHl s { s.cpu with sp := s.hl, cycles := 2 })
      ∧ (EncodedAs (.ldMemA16Sp a) [0x08, a.extractLsb' 0 8, a.extractLsb' 8 8]
        ∧ exec (.ldMemA16Sp a) s =
            .next { busWrite (busWrite s a (s.cpu.sp.extractLsb' 0 8)) (a + 1) (s.cpu.sp.extractLsb' 8 8) with
              cpu := { s.cpu with cycles := 5 } }
        ∧ ∀ t, exec (.ldMemA16Sp a) s = .next t →
            ∀ b, ¬ StoreReaches s a b → ¬ StoreReaches s (a + 1) b → busRead t b = busRead s b)

/-- ADD SP,e8 and LD HL,SP+e8: the signed byte added modulo 2^16, the carries those of the unsigned addition of the low byte
and the raw byte (41_loads_16bit_stack.md R153, 43_alu_16bit.md R203; the flags are decision D34). -/
def Obligations.SignedOffsetsFromSp : Prop :=
  ∀ (s : State) (e : Byte) (r : Addr), (r.toNat : Int) = ((s.cpu.sp.toNat : Int) + e.toInt) % 65536 →
    ∃ f, FlagsAre f false false (decide (0x0F < s.cpu.sp.toNat % 16 + e.toNat % 16))
        (decide (0xFF < s.cpu.sp.toNat % 256 + e.toNat))
      ∧ (EncodedAs (.addSpE8 e) [0xE8, e] ∧ RegistersOnly (.addSpE8 e) s { s.cpu with sp := r, f := f, cycles := 4 })
      ∧ (EncodedAs (.ldHlSpE8 e) [0xF8, e]
        ∧ RegistersOnly (.ldHlSpE8 e) s { (s.setHl r).cpu with f := f, cycles := 3 })

/-- PUSH rr (41_loads_16bit_stack.md R154). -/
def Obligations.PushStoresHighThenLow : Prop :=
  ∀ (s : State) (p : R16Stk),
    EncodedAs (Form.push p) [0xC5 + 16 * p.code]
      ∧ PushesWord (Form.push p) s (s.getR16Stk p) { s.cpu with sp := s.cpu.sp - 2, cycles := 4 }

/-- POP rr, and POP AF, which drops the low four bits of the flags' byte (41_loads_16bit_stack.md R155, R156). -/
def Obligations.PopReadsLowThenHigh : Prop :=
  ∀ (s : State) (p : R16Stk),
    EncodedAs (Form.pop p) [0xC1 + 16 * p.code]
      ∧ RegistersOnly (Form.pop p) s { (s.setR16Stk p (topOfStack s)).cpu with sp := s.cpu.sp + 2, cycles := 3 }
      ∧ (s.setR16Stk .AF (topOfStack s)).cpu.f = busRead s s.cpu.sp &&& 0xF0
      ∧ (s.setR16Stk .AF (topOfStack s)).cpu.a = busRead s (s.cpu.sp + 1)

/-- A pushed pair is popped, into any pair, and a CALL returns: with the two bytes below SP in WRAM or HRAM, PUSH rr then POP
qq leaves SP where it was and qq holding rr, and CALL a16 then RET leaves SP and PC where they were (41_loads_16bit_stack.md
R154, R155, R156, 45_control_transfer.md R225, R227, 20_memory.md R67). -/
def Obligations.StackReturnsWhatWasPushed : Prop :=
  ∀ (s : State) (p q : R16Stk) (a : Addr),
    (∀ b : Addr, b = s.cpu.sp - 1 ∨ b = s.cpu.sp - 2 → regionOf b = .wram ∨ regionOf b = .hram) →
    (∃ t u, exec (Form.push p) s = .next t ∧ exec (Form.pop q) t = .next u ∧ u.cpu.sp = s.cpu.sp
        ∧ u.cpu = { (s.setR16Stk q (s.getR16Stk p)).cpu with cycles := 3 })
      ∧ ∃ t u, exec (.callA16 a) s = .next t ∧ t.cpu.pc = a ∧ exec .ret t = .next u
        ∧ u.cpu = { s.cpu with cycles := 4 }

/-! ## 8-bit arithmetic and logic -/

/-- ADD A,x and ADC A,x in every operand form (42_alu_8bit.md R171, R172, R173). -/
def Obligations.AdditionsToTheAccumulator : Prop :=
  ∀ (s : State) (x : Source) (a v c n : Nat), a = s.cpu.a.toNat → v = (getSource s x).toNat → c = (carryFlag s).toNat →
    n = (match x with | .loc (.reg _) => 1 | .loc .memHl => 2 | .imm _ => 2) →
    (EncodedAs (Form.alu .add x) (aluBytes .add x)
        ∧ ∃ r f : Byte, r.toNat = (a + v) % 256
          ∧ FlagsAre f (decide (r = 0)) false (decide (0x0F < a % 16 + v % 16)) (decide (0xFF < a + v))
          ∧ RegistersOnly (Form.alu .add x) s { s.cpu with a := r, f := f, cycles := n })
      ∧ (EncodedAs (Form.alu .adc x) (aluBytes .adc x)
        ∧ ∃ r f : Byte, r.toNat = (a + v + c) % 256
          ∧ FlagsAre f (decide (r = 0)) false (decide (0x0F < a % 16 + v % 16 + c)) (decide (0xFF < a + v + c))
          ∧ RegistersOnly (Form.alu .adc x) s { s.cpu with a := r, f := f, cycles := n })

/-- SUB x, SBC A,x and CP x in every operand form (42_alu_8bit.md R171, R174, R175, R179). -/
def Obligations.SubtractionsFromTheAccumulator : Prop :=
  ∀ (s : State) (x : Source) (a v c n : Nat), a = s.cpu.a.toNat → v = (getSource s x).toNat → c = (carryFlag s).toNat →
    n = (match x with | .loc (.reg _) => 1 | .loc .memHl => 2 | .imm _ => 2) →
    (EncodedAs (Form.alu .sub x) (aluBytes .sub x)
        ∧ ∃ r f : Byte, r.toNat = (a + 256 - v) % 256
          ∧ FlagsAre f (decide (r = 0)) true (decide (a % 16 < v % 16)) (decide (a < v))
          ∧ RegistersOnly (Form.alu .sub x) s { s.cpu with a := r, f := f, cycles := n })
      ∧ (EncodedAs (Form.alu .sbc x) (aluBytes .sbc x)
        ∧ ∃ r f : Byte, r.toNat = (a + 512 - v - c) % 256
          ∧ FlagsAre f (decide (r = 0)) true (decide (a % 16 < v % 16 + c)) (decide (a < v + c))
          ∧ RegistersOnly (Form.alu .sbc x) s { s.cpu with a := r, f := f, cycles := n })
      ∧ (EncodedAs (Form.alu .cp x) (aluBytes .cp x)
        ∧ ∃ f : Byte, FlagsAre f (decide (a = v)) true (decide (a % 16 < v % 16)) (decide (a < v))
          ∧ RegistersOnly (Form.alu .cp x) s { s.cpu with f := f, cycles := n })

/-- AND x, XOR x and OR x in every operand form (42_alu_8bit.md R171, R176, R177, R178). -/
def Obligations.LogicOnTheAccumulator : Prop :=
  ∀ (s : State) (x : Source) (v : Byte) (n : Nat), v = getSource s x →
    n = (match x with | .loc (.reg _) => 1 | .loc .memHl => 2 | .imm _ => 2) →
    (EncodedAs (Form.alu .and x) (aluBytes .and x)
        ∧ ∃ f, FlagsAre f (decide (s.cpu.a &&& v = 0)) false true false
          ∧ RegistersOnly (Form.alu .and x) s { s.cpu with a := s.cpu.a &&& v, f := f, cycles := n })
      ∧ (EncodedAs (Form.alu .xor x) (aluBytes .xor x)
        ∧ ∃ f, FlagsAre f (decide (s.cpu.a ^^^ v = 0)) false false false
          ∧ RegistersOnly (Form.alu .xor x) s { s.cpu with a := s.cpu.a ^^^ v, f := f, cycles := n })
      ∧ (EncodedAs (Form.alu .or x) (aluBytes .or x)
        ∧ ∃ f, FlagsAre f (decide (s.cpu.a ||| v = 0)) false false false
          ∧ RegistersOnly (Form.alu .or x) s { s.cpu with a := s.cpu.a ||| v, f := f, cycles := n })

/-- INC r and DEC r: the C flag keeps its value (42_alu_8bit.md R180, R182). -/
def Obligations.RegisterIncrementsAndDecrements : Prop :=
  ∀ (s : State) (d : R8) (v : Nat), v = (s.getR8 d).toNat →
    (EncodedAs (Form.inc (.reg d)) [0x04 + 8 * d.code]
        ∧ ∃ r f : Byte, r.toNat = (v + 1) % 256
          ∧ FlagsAre f (decide (r = 0)) false (decide (v % 16 = 0x0F)) (carryFlag s)
          ∧ RegistersOnly (Form.inc (.reg d)) s { (s.setR8 d r).cpu with f := f, cycles := 1 })
      ∧ (EncodedAs (Form.dec (.reg d)) [0x05 + 8 * d.code]
        ∧ ∃ r f : Byte, r.toNat = (v + 255) % 256
          ∧ FlagsAre f (decide (r = 0)) true (decide (v % 16 = 0x00)) (carryFlag s)
          ∧ RegistersOnly (Form.dec (.reg d)) s { (s.setR8 d r).cpu with f := f, cycles := 1 })

/-- INC (HL) and DEC (HL): one read and one write of the byte at HL, the C flag keeps its value (42_alu_8bit.md R181,
R183). -/
def Obligations.MemoryIncrementsAndDecrements : Prop :=
  ∀ (s : State) (v : Nat), v = (busRead s s.hl).toNat →
    (EncodedAs .incMemHl [0x34]
        ∧ ∃ r f : Byte, r.toNat = (v + 1) % 256
          ∧ FlagsAre f (decide (r = 0)) false (decide (v % 16 = 0x0F)) (carryFlag s)
          ∧ StoresByte .incMemHl s s.hl r { s.cpu with f := f, cycles := 3 })
      ∧ (EncodedAs .decMemHl [0x35]
        ∧ ∃ r f : Byte, r.toNat = (v + 255) % 256
          ∧ FlagsAre f (decide (r = 0)) true (decide (v % 16 = 0x00)) (carryFlag s)
          ∧ StoresByte .decMemHl s s.hl r { s.cpu with f := f, cycles := 3 })

/-! ## 16-bit arithmetic -/

/-- ADD HL,rr: the carries out of bits 11 and 15, Z never touched (43_alu_16bit.md R200). -/
def Obligations.AdditionsToHl : Prop :=
  ∀ (s : State) (p : R16) (v : Nat), v = (s.getR16 p).toNat →
    EncodedAs (Form.addHl p) [0x09 + 16 * p.code]
      ∧ ∃ (r : Addr) (f : Byte), r.toNat = (s.hl.toNat + v) % 65536
        ∧ FlagsAre f (zeroFlag s) false (decide (0x0FFF < s.hl.toNat % 4096 + v % 4096)) (decide (0xFFFF < s.hl.toNat + v))
        ∧ RegistersOnly (Form.addHl p) s { (s.setHl r).cpu with f := f, cycles := 2 }

/-- INC rr and DEC rr: modulo 2^16, no flag changed (43_alu_16bit.md R201, R202). -/
def Obligations.PairIncrementsAndDecrements : Prop :=
  ∀ (s : State) (p : R16) (up down : Addr), up.toNat = ((s.getR16 p).toNat + 1) % 65536 →
    down.toNat = ((s.getR16 p).toNat + 65535) % 65536 →
    (EncodedAs (Form.incPair p) [0x03 + 16 * p.code]
        ∧ RegistersOnly (Form.incPair p) s { (s.setR16 p up).cpu with cycles := 2 })
      ∧ (EncodedAs (Form.decPair p) [0x0B + 16 * p.code]
        ∧ RegistersOnly (Form.decPair p) s { (s.setR16 p down).cpu with cycles := 2 })

/-! ## Accumulator and flag operations -/

/-- RLCA, RRCA, RLA, RRA with Z always 0; CPL; SCF; CCF (44_accumulator_flags.md R210 to R213, R215, R216, R217). -/
def Obligations.AccumulatorRotatesAndFlagOperations : Prop :=
  ∀ (s : State) (a c : Nat), a = s.cpu.a.toNat → c = (carryFlag s).toNat →
    (EncodedAs .rlca [0x07]
        ∧ ∃ r f : Byte, r.toNat = (2 * a + a / 128) % 256 ∧ FlagsAre f false false false (decide (a / 128 = 1))
          ∧ RegistersOnly .rlca s { s.cpu with a := r, f := f, cycles := 1 })
      ∧ (EncodedAs .rrca [0x0F]
        ∧ ∃ r f : Byte, r.toNat = a / 2 + 128 * (a % 2) ∧ FlagsAre f false false false (decide (a % 2 = 1))
          ∧ RegistersOnly .rrca s { s.cpu with a := r, f := f, cycles := 1 })
      ∧ (EncodedAs .rla [0x17]
        ∧ ∃ r f : Byte, r.toNat = (2 * a + c) % 256 ∧ FlagsAre f false false false (decide (a / 128 = 1))
          ∧ RegistersOnly .rla s { s.cpu with a := r, f := f, cycles := 1 })
      ∧ (EncodedAs .rra [0x1F]
        ∧ ∃ r f : Byte, r.toNat = a / 2 + 128 * c ∧ FlagsAre f false false false (decide (a % 2 = 1))
          ∧ RegistersOnly .rra s { s.cpu with a := r, f := f, cycles := 1 })
      ∧ (EncodedAs .cpl [0x2F]
        ∧ ∃ r f : Byte, r.toNat = 255 - a ∧ FlagsAre f (zeroFlag s) true true (carryFlag s)
          ∧ RegistersOnly .cpl s { s.cpu with a := r, f := f, cycles := 1 })
      ∧ (EncodedAs .scf [0x37]
        ∧ ∃ f, FlagsAre f (zeroFlag s) false false true ∧ RegistersOnly .scf s { s.cpu with f := f, cycles := 1 })
      ∧ (EncodedAs .ccf [0x3F]
        ∧ ∃ f, FlagsAre f (zeroFlag s) false false (!carryFlag s)
          ∧ RegistersOnly .ccf s { s.cpu with f := f, cycles := 1 })

/-- DAA (44_accumulator_flags.md R214): `low` and `high` say which corrections apply. -/
def Obligations.DecimalAdjustCorrectsTheAccumulator : Prop :=
  ∀ (s : State) (a adj : Nat) (low high : Bool), a = s.cpu.a.toNat →
    low = (halfFlag s || (!subFlag s && decide (0x09 < a % 16))) →
    high = (carryFlag s || (!subFlag s && decide (0x99 < a))) →
    adj = (if low then 0x06 else 0) + (if high then 0x60 else 0) →
    EncodedAs .daa [0x27]
      ∧ ∃ r f : Byte, r.toNat = (if subFlag s then a + 256 - adj else a + adj) % 256
        ∧ FlagsAre f (decide (r = 0)) (subFlag s) false high
        ∧ RegistersOnly .daa s { s.cpu with a := r, f := f, cycles := 1 }

/-- DAA makes the binary instructions decimal ones: after ADD, ADC, SUB or SBC of two packed decimal bytes it leaves the
packed decimal sum or difference modulo 100 in A and the decimal carry or borrow in C (44_accumulator_flags.md R214,
42_alu_8bit.md R184). -/
def Obligations.DecimalArithmeticIsExact : Prop :=
  ∀ (s : State) (m n c : Nat), m < 100 → n < 100 → s.cpu.a = packedDecimal m → c = (carryFlag s).toNat →
    (∃ t u, exec (.addAD8 (packedDecimal n)) s = .next t ∧ exec .daa t = .next u
        ∧ u.cpu.a = packedDecimal ((m + n) % 100) ∧ carryFlag u = decide (100 ≤ m + n))
      ∧ (∃ t u, exec (.adcAD8 (packedDecimal n)) s = .next t ∧ exec .daa t = .next u
        ∧ u.cpu.a = packedDecimal ((m + n + c) % 100) ∧ carryFlag u = decide (100 ≤ m + n + c))
      ∧ (∃ t u, exec (.subD8 (packedDecimal n)) s = .next t ∧ exec .daa t = .next u
        ∧ u.cpu.a = packedDecimal ((m + 100 - n) % 100) ∧ carryFlag u = decide (m < n))
      ∧ (∃ t u, exec (.sbcAD8 (packedDecimal n)) s = .next t ∧ exec .daa t = .next u
        ∧ u.cpu.a = packedDecimal ((m + 200 - n - c) % 100) ∧ carryFlag u = decide (m < n + c))

/-! ## Control transfer -/

/-- JP a16, JP cc,a16, JP HL, JR e8 and JR cc,e8, each with its count taken and not taken; PC in the state is the address of
the next instruction (45_control_transfer.md R220 to R224). -/
def Obligations.JumpsSetPc : Prop :=
  ∀ (s : State) (cc : Cond) (a : Addr) (e : Byte) (r : Addr), (r.toNat : Int) = ((s.cpu.pc.toNat : Int) + e.toInt) % 65536 →
    (EncodedAs (.jpA16 a) [0xC3, a.extractLsb' 0 8, a.extractLsb' 8 8]
        ∧ RegistersOnly (.jpA16 a) s { s.cpu with pc := a, cycles := 4 })
      ∧ (EncodedAs (Form.jumpIf cc a) [0xC2 + 8 * cc.code, a.extractLsb' 0 8, a.extractLsb' 8 8]
        ∧ RegistersOnly (Form.jumpIf cc a) s
            (if condition s cc then { s.cpu with pc := a, cycles := 4 } else { s.cpu with cycles := 3 }))
      ∧ (EncodedAs .jpHl [0xE9] ∧ RegistersOnly .jpHl s { s.cpu with pc := s.hl, cycles := 1 })
      ∧ (EncodedAs (.jrE8 e) [0x18, e] ∧ RegistersOnly (.jrE8 e) s { s.cpu with pc := r, cycles := 3 })
      ∧ (EncodedAs (Form.jumpRelIf cc e) [0x20 + 8 * cc.code, e]
        ∧ RegistersOnly (Form.jumpRelIf cc e) s
            (if condition s cc then { s.cpu with pc := r, cycles := 3 } else { s.cpu with cycles := 2 }))

/-- CALL a16, CALL cc,a16 and RST t: the address of the next instruction is pushed (45_control_transfer.md R225, R226,
R230). -/
def Obligations.CallsPushTheReturnAddress : Prop :=
  ∀ (s : State) (cc : Cond) (a : Addr) (t : BitVec 3),
    (EncodedAs (.callA16 a) [0xCD, a.extractLsb' 0 8, a.extractLsb' 8 8]
        ∧ PushesWord (.callA16 a) s s.cpu.pc { s.cpu with sp := s.cpu.sp - 2, pc := a, cycles := 6 })
      ∧ (EncodedAs (Form.callIf cc a) [0xC4 + 8 * cc.code, a.extractLsb' 0 8, a.extractLsb' 8 8]
        ∧ (condition s cc = true →
            PushesWord (Form.callIf cc a) s s.cpu.pc { s.cpu with sp := s.cpu.sp - 2, pc := a, cycles := 6 })
        ∧ (condition s cc = false → RegistersOnly (Form.callIf cc a) s { s.cpu with cycles := 3 }))
      ∧ (EncodedAs (Form.restart t) [0xC7 + 8 * t.setWidth 8]
        ∧ PushesWord (Form.restart t) s s.cpu.pc
            { s.cpu with sp := s.cpu.sp - 2, pc := BitVec.ofNat 16 (8 * t.toNat), cycles := 4 })

/-- RET, RET cc and RETI, the last setting IME at once (45_control_transfer.md R227, R228, R229; RETI is decision D6). -/
def Obligations.ReturnsPopPc : Prop :=
  ∀ (s : State) (cc : Cond),
    (EncodedAs .ret [0xC9]
        ∧ RegistersOnly .ret s { s.cpu with sp := s.cpu.sp + 2, pc := topOfStack s, cycles := 4 })
      ∧ (EncodedAs (Form.retIf cc) [0xC0 + 8 * cc.code]
        ∧ RegistersOnly (Form.retIf cc) s
            (if condition s cc then { s.cpu with sp := s.cpu.sp + 2, pc := topOfStack s, cycles := 5 }
              else { s.cpu with cycles := 2 }))
      ∧ (EncodedAs .reti [0xD9]
        ∧ RegistersOnly .reti s { s.cpu with sp := s.cpu.sp + 2, pc := topOfStack s, ime := true, cycles := 4 })

/-! ## CB-prefixed instructions -/

/-- RLC, RRC, RL, RR, SLA, SRA, SWAP, SRL on a register and on (HL) (46_cb_prefixed.md R240 to R248). -/
def Obligations.RotatesAndShifts : Prop :=
  ∀ (s : State) (op : ShiftOp) (l : Loc) (v : Nat), v = (getLoc s l).toNat →
    EncodedAs (Form.shift op l) [0xCB, 8 * op.code + l.code]
      ∧ ∃ r f : Byte, r.toNat = (shiftedValue v (carryFlag s) op).1
        ∧ FlagsAre f (decide (r = 0)) false false (shiftedValue v (carryFlag s) op).2
        ∧ (∀ d, l = .reg d → RegistersOnly (Form.shift op l) s { (s.setR8 d r).cpu with f := f, cycles := 2 })
        ∧ (l = .memHl → StoresByte (Form.shift op l) s s.hl r { s.cpu with f := f, cycles := 4 })

/-- BIT b,x, which writes nothing back and leaves C; RES b,x and SET b,x, which change no flag (46_cb_prefixed.md R249, R250,
R251). -/
def Obligations.BitTestsClearsAndSets : Prop :=
  ∀ (s : State) (b : BitVec 3) (l : Loc) (v cleared raised : Byte), v = getLoc s l →
    (∀ n, cleared.getLsbD n = (v.getLsbD n && decide (n ≠ b.toNat))) →
    (∀ n, raised.getLsbD n = (v.getLsbD n || decide (n = b.toNat))) →
    (EncodedAs (Form.bit b l) [0xCB, 0x40 + 8 * b.setWidth 8 + l.code]
        ∧ ∃ f, FlagsAre f (!v.getLsbD b.toNat) false true (carryFlag s)
          ∧ RegistersOnly (Form.bit b l) s { s.cpu with f := f, cycles := if l = .memHl then 3 else 2 })
      ∧ (EncodedAs (Form.res b l) [0xCB, 0x80 + 8 * b.setWidth 8 + l.code]
        ∧ (∀ d, l = .reg d → RegistersOnly (Form.res b l) s { (s.setR8 d cleared).cpu with cycles := 2 })
        ∧ (l = .memHl → StoresByte (Form.res b l) s s.hl cleared { s.cpu with cycles := 4 }))
      ∧ (EncodedAs (Form.set b l) [0xCB, 0xC0 + 8 * b.setWidth 8 + l.code]
        ∧ (∀ d, l = .reg d → RegistersOnly (Form.set b l) s { (s.setR8 d raised).cpu with cycles := 2 })
        ∧ (l = .memHl → StoresByte (Form.set b l) s s.hl raised { s.cpu with cycles := 4 }))

/-- The byte 0xCB selects the secondary table for the byte that follows (the prefix's own row is log entry 6): the pair
decodes to that table's instruction, and the prefix's own row of the opcode table does what that instruction does, completing
from every state (30_encoding.md R95, 47_system.md R266). -/
def Obligations.PrefixSelectsTheSecondaryTable : Prop :=
  ∀ (s : State) (cb : Byte),
    (∀ rest, decode (0xCB :: cb :: rest) = .ok (secondaryMap cb, rest))
      ∧ ∃ t, exec (.prefixCb cb) s = .next t ∧ exec (secondaryMap cb) s = .next t

/-! ## System instructions and unassigned opcodes -/

/-- NOP, HALT, STOP, DI and EI (47_system.md R260 to R264; STOP is decision D7, HALT without the halt bug D8, EI whatever IME
holds D5). -/
def Obligations.SystemInstructions : Prop :=
  ∀ (s : State) (pad : Byte),
    (EncodedAs .nop [0x00] ∧ RegistersOnly .nop s { s.cpu with cycles := 1 })
      ∧ (EncodedAs .halt [0x76] ∧ RegistersOnly .halt s { s.cpu with halted := true, cycles := 1 })
      ∧ (EncodedAs (.stop pad) [0x10, pad] ∧ RegistersOnly (.stop pad) s { s.cpu with cycles := 1 })
      ∧ (EncodedAs .di [0xF3] ∧ RegistersOnly .di s { s.cpu with ime := false, imeDelay := 0, cycles := 1 })
      ∧ (EncodedAs .ei [0xFB] ∧ RegistersOnly .ei s { s.cpu with imeDelay := 2, cycles := 1 })

/-- The eleven unassigned opcodes: reported, and otherwise one-cycle no-ops (47_system.md R265, 30_encoding.md R97; decisions
D9, D32). -/
def Obligations.UnassignedOpcodesAreReportedNoOps : Prop :=
  ∀ (s : State) (op : Byte) (i : Instr), (op, i) ∈ unassignedOpcodes →
    EncodedAs i [op]
      ∧ ∃ t, exec i s = .next t ∧ t = { s with cpu.cycles := 1, out.reports := op :: s.out.reports }
        ∧ ∀ a, busRead t a = busRead s a
end

