-- ==== Sys2Proof/Laws/Bits.lean ====
section
/-! SUPPORT. The two halves of a 16-bit value, the high page, and the 3-bit selector. -/

namespace Sys2Proof.Machine

theorem join_toNat (h l : Byte) : (join h l).toNat = 256 * h.toNat + l.toNat := by
  refine (BitVec.toNat_append h l).trans ?_
  rw [← Nat.shiftLeft_add_eq_or_of_lt l.isLt, Nat.shiftLeft_eq]
  omega

theorem hi_toNat (v : Addr) : (hi v).toNat = v.toNat / 256 := by
  simp only [hi, BitVec.extractLsb'_toNat, Nat.shiftRight_eq_div_pow]
  omega

theorem lo_toNat (v : Addr) : (lo v).toNat = v.toNat % 256 := by
  simp only [lo, BitVec.extractLsb'_toNat, Nat.shiftRight_zero]

@[simp] theorem hi_join (h l : Byte) : hi (join h l) = h := by
  apply BitVec.eq_of_toNat_eq; rw [hi_toNat, join_toNat]; omega

@[simp] theorem lo_join (h l : Byte) : lo (join h l) = l := by
  apply BitVec.eq_of_toNat_eq; rw [lo_toNat, join_toNat]; omega

@[simp] theorem join_hi_lo (v : Addr) : join (hi v) (lo v) = v := by
  apply BitVec.eq_of_toNat_eq; rw [join_toNat, hi_toNat, lo_toNat]; omega

theorem hi_eq (v : Addr) : hi v = BitVec.ofNat 8 (v.toNat / 256) := by
  apply BitVec.eq_of_toNat_eq; rw [hi_toNat, BitVec.toNat_ofNat]; omega

theorem lo_eq (v : Addr) : lo v = BitVec.ofNat 8 (v.toNat % 256) := by
  apply BitVec.eq_of_toNat_eq; rw [lo_toNat, BitVec.toNat_ofNat]; omega

theorem highPage_eq (n : Byte) : highPage n = BitVec.ofNat 16 (0xFF00 + n.toNat) := by
  apply BitVec.eq_of_toNat_eq; simp [highPage]

/-- Sign extension as integers. -/
theorem add_sext16_toNat (v : Addr) (e : Byte) : ((v + sext16 e).toNat : Int) = ((v.toNat : Int) + e.toInt) % 65536 := by
  have hv := v.isLt
  have he := e.isLt
  unfold sext16
  rw [BitVec.toNat_add, BitVec.toNat_signExtend, BitVec.toInt_eq_msb_cond, BitVec.toNat_setWidth,
    show (2 : Nat) ^ 16 = 65536 from rfl]
  split
  · rw [show (65536 : Nat) - 2 ^ 8 = 65280 from rfl, show (2 : Nat) ^ 8 = 256 from rfl]; omega
  · omega

/-- A property of every column of a table holds of the column selected. -/
theorem pick8_of {α : Type} (P : α → Prop) {x0 x1 x2 x3 x4 x5 x6 x7 : α} (h0 : P x0) (h1 : P x1) (h2 : P x2) (h3 : P x3)
    (h4 : P x4) (h5 : P x5) (h6 : P x6) (h7 : P x7) (i : BitVec 3) : P (pick8 x0 x1 x2 x3 x4 x5 x6 x7 i) := by
  unfold pick8; split <;> assumption

end Sys2Proof.Machine
end

