-- ==== Sys2Proof/Laws/Memory.lean ====
section
/-! SUPPORT. Memory: reads after writes, and the canonical form kept by every operation. -/

namespace Sys2Proof.Machine

theorem Memory.read_erase (m : Memory) (a b : Nat) :
    (m.erase a).read b = if b = a then Memory.unlisted else m.read b := by
  induction m with
  | nil => simp [Memory.erase, Memory.read]
  | cons cell rest ih =>
    simp only [Memory.erase, Memory.read]
    by_cases h : cell.1 = a
    · by_cases hb : b = a
      · simp_all
      · have : cell.1 ≠ b := fun hc => hb (hc.symm.trans h)
        simp_all
    · by_cases hb : b = a
      · have : cell.1 ≠ b := fun hc => h (hc.trans hb)
        simp_all [Memory.read]
      · simp_all [Memory.read]

theorem Memory.read_insert (m : Memory) (a b : Nat) (v : Byte) :
    (Memory.insert (m.erase a) a v).read b = if b = a then v else m.read b := by
  induction m with
  | nil => simp only [Memory.erase, Memory.insert, Memory.read]; by_cases h : a = b <;> simp [h, eq_comm]
  | cons cell rest ih =>
    by_cases h : cell.1 = a
    · have he : Memory.erase (cell :: rest) a = Memory.erase rest a := by simp [Memory.erase, h]
      rw [he, ih]
      by_cases hb : b = a
      · simp [hb]
      · have : cell.1 ≠ b := fun hc => hb (hc.symm.trans h)
        simp [hb, Memory.read, this]
    · have he : Memory.erase (cell :: rest) a = cell :: Memory.erase rest a := by simp [Memory.erase, h]
      rw [he]
      simp only [Memory.insert]
      by_cases hlt : a < cell.1
      · simp only [hlt, if_true, Memory.read, Memory.read_erase]
        by_cases hb : b = a
        · simp [hb]
        · have hab : a ≠ b := fun hc => hb hc.symm
          simp [hb, hab]
      · simp only [hlt, if_false, Memory.read, ih]
        by_cases hb : b = a
        · have : cell.1 ≠ b := fun hc => h (hc.trans hb)
          simp [hb, h]
        · simp [hb]

/-- A write is read back at its address and nowhere else, whatever the list. -/
theorem Memory.read_write (m : Memory) (a b : Nat) (v : Byte) :
    (m.write a v).read b = if b = a then v else m.read b := by
  unfold Memory.write
  split
  · rename_i h; rw [Memory.read_erase, h]
  · exact Memory.read_insert m a b v

@[simp] theorem Memory.read_write_same (m : Memory) (a : Nat) (v : Byte) : (m.write a v).read a = v := by
  simp [Memory.read_write]

theorem Memory.read_write_other (m : Memory) {a b : Nat} (v : Byte) (h : b ≠ a) : (m.write a v).read b = m.read b := by
  simp [Memory.read_write, h]

theorem Memory.wfAbove_cons {bound : Option Nat} {cell : Host.Cell} {rest : Memory} :
    Memory.wfAbove bound (cell :: rest) = true ↔
      (∀ low, bound = some low → low < cell.1) ∧ cell.2 ≠ Memory.unlisted ∧ Memory.wfAbove (some cell.1) rest = true := by
  cases bound <;> simp [Memory.wfAbove, and_assoc]

theorem Memory.wfAbove_weaken {b b' : Option Nat} {m : Memory} (h : Memory.wfAbove b m = true)
    (hb : ∀ low, b' = some low → ∃ low', b = some low' ∧ low ≤ low') : Memory.wfAbove b' m = true := by
  cases m with
  | nil => rfl
  | cons cell rest =>
    rw [Memory.wfAbove_cons] at h ⊢
    refine ⟨fun low hl => ?_, h.2⟩
    obtain ⟨low', hb', hle⟩ := hb low hl
    exact Nat.lt_of_le_of_lt hle (h.1 low' hb')

theorem Memory.wfAbove_erase {b : Option Nat} {m : Memory} (a : Nat) (h : Memory.wfAbove b m = true) :
    Memory.wfAbove b (m.erase a) = true := by
  induction m generalizing b with
  | nil => rfl
  | cons cell rest ih =>
    rw [Memory.wfAbove_cons] at h
    simp only [Memory.erase]
    split
    · exact Memory.wfAbove_weaken (ih h.2.2) (fun low hl => ⟨cell.1, rfl, Nat.le_of_lt (h.1 low hl)⟩)
    · rw [Memory.wfAbove_cons]; exact ⟨h.1, h.2.1, ih h.2.2⟩

theorem Memory.wfAbove_insert {b : Option Nat} {m : Memory} {a : Nat} {v : Byte} (h : Memory.wfAbove b m = true)
    (hb : ∀ low, b = some low → low < a) (hv : v ≠ Memory.unlisted) (hn : ∀ cell ∈ m, cell.1 ≠ a) :
    Memory.wfAbove b (m.insert a v) = true := by
  induction m generalizing b with
  | nil => simp only [Memory.insert]; rw [Memory.wfAbove_cons]; exact ⟨hb, hv, rfl⟩
  | cons cell rest ih =>
    have hc := Memory.wfAbove_cons.1 h
    simp only [Memory.insert]
    split
    · rename_i hlt
      rw [Memory.wfAbove_cons]
      refine ⟨hb, hv, Memory.wfAbove_cons.2 ⟨fun low hl => ?_, hc.2⟩⟩
      cases hl; exact hlt
    · rename_i hlt
      rw [Memory.wfAbove_cons]
      have hne : cell.1 ≠ a := hn cell (by simp)
      refine ⟨hc.1, hc.2.1, ih hc.2.2 (fun low hl => ?_) (fun x hx => hn x (by simp [hx]))⟩
      cases hl; omega

theorem Memory.erase_ne (m : Memory) (a : Nat) : ∀ cell ∈ m.erase a, cell.1 ≠ a := by
  induction m with
  | nil => simp [Memory.erase]
  | cons c rest ih =>
    intro cell hc
    simp only [Memory.erase] at hc
    split at hc
    · exact ih cell hc
    · rename_i h
      rcases List.mem_cons.1 hc with rfl | h'
      · exact h
      · exact ih cell h'

/-- A write keeps the canonical form. -/
theorem Memory.wf_write {m : Memory} (a : Nat) (v : Byte) (h : m.wf = true) : (m.write a v).wf = true := by
  unfold Memory.write
  split
  · exact Memory.wfAbove_erase a h
  · rename_i hv
    exact Memory.wfAbove_insert (Memory.wfAbove_erase a h) (by simp) hv (Memory.erase_ne m a)

theorem Memory.erase_subset (m : Memory) (a : Nat) : ∀ cell ∈ m.erase a, cell ∈ m := by
  induction m with
  | nil => simp [Memory.erase]
  | cons c rest ih =>
    intro cell hc
    simp only [Memory.erase] at hc
    split at hc
    · exact List.mem_cons_of_mem _ (ih cell hc)
    · rcases List.mem_cons.1 hc with rfl | h'
      · simp
      · exact List.mem_cons_of_mem _ (ih cell h')

theorem Memory.mem_insert (m : Memory) (a : Nat) (v : Byte) : ∀ cell ∈ m.insert a v, cell ∈ m ∨ cell.1 = a := by
  induction m with
  | nil => simp [Memory.insert]
  | cons c rest ih =>
    intro cell hc
    simp only [Memory.insert] at hc
    split at hc
    · rcases List.mem_cons.1 hc with rfl | h'
      · exact .inr rfl
      · exact .inl h'
    · rcases List.mem_cons.1 hc with rfl | h'
      · exact .inl (by simp)
      · rcases ih cell h' with h | h
        · exact .inl (List.mem_cons_of_mem _ h)
        · exact .inr h

/-- A write lists no address but its own. -/
theorem Memory.mem_write (m : Memory) (a : Nat) (v : Byte) : ∀ cell ∈ m.write a v, cell ∈ m ∨ cell.1 = a := by
  intro cell hc
  unfold Memory.write at hc
  split at hc
  · exact .inl (Memory.erase_subset m a cell hc)
  · rcases Memory.mem_insert _ a v cell hc with h | h
    · exact .inl (Memory.erase_subset m a cell h)
    · exact .inr h

/-- Memory after reset is canonical. -/
theorem State.reset_mem_wf : State.reset.mem.wf = true := rfl

end Sys2Proof.Machine
end

