-- ==== Sys2Proof/Laws/Bus.lean ====
section
/-! SUPPORT. The bus: what a read depends on, what a write can do, and what it leaves. -/

namespace Sys2Proof.Machine

/-! ### Reads do not see the CPU or the outputs -/

@[simp] theorem busRead_cpu (s : State) (c : Cpu) (a : Addr) : busRead { s with cpu := c } a = busRead s a := rfl

@[simp] theorem busRead_out (s : State) (o : Outputs) (a : Addr) : busRead { s with out := o } a = busRead s a := rfl

/-- A read sees the bus registers, the timer, the PPU, the memory and the cartridge. -/
theorem busRead_congr {s t : State} (hb : t.bus = s.bus) (ht : t.timer = s.timer) (hp : t.ppu = s.ppu) (hm : t.mem = s.mem)
    (hc : t.cart = s.cart) (a : Addr) : busRead t a = busRead s a := by
  obtain ⟨c, b, tm, p, m, ca, o⟩ := s
  obtain ⟨c', b', tm', p', m', ca', o'⟩ := t
  cases hb; cases ht; cases hp; cases hm; cases hc; rfl

/-! ### DMA changes memory only -/

/-- The copy over any list of byte numbers. -/
theorem dma_fold (v : Byte) (l : List Nat) (s : State) :
    ∃ m : Memory, l.foldl (fun t i => t.storeByte (oamAddr i) (busRead t (dmaSource v i))) s = { s with mem := m }
      ∧ (s.mem.wf = true → m.wf = true)
      ∧ ((∀ i ∈ l, i < 160) → (∀ cell ∈ s.mem, backed cell.1 = true) → ∀ cell ∈ m, backed cell.1 = true) := by
  induction l generalizing s with
  | nil => exact ⟨s.mem, rfl, id, fun _ h => h⟩
  | cons i rest ih =>
    obtain ⟨m, he, hw, hb⟩ := ih (s.storeByte (oamAddr i) (busRead s (dmaSource v i)))
    refine ⟨m, he, fun h => hw (Memory.wf_write _ _ h), fun hl h => hb (fun j hj => hl j (by simp [hj])) ?_⟩
    intro cell hc
    rcases Memory.mem_write _ _ _ cell hc with h' | h'
    · exact h cell h'
    · have := hl i (by simp)
      unfold oamAddr at h'; rw [h']; simp only [backed, Bool.or_eq_true, Bool.and_eq_true, decide_eq_true_eq]; omega

/-- What the copy of 20_memory.md R71 can do. -/
theorem dmaCopy_mem (v : Byte) (s : State) :
    ∃ m : Memory, dmaCopy v s = { s with mem := m } ∧ (s.mem.wf = true → m.wf = true)
      ∧ ((∀ cell ∈ s.mem, backed cell.1 = true) → ∀ cell ∈ m, backed cell.1 = true) := by
  obtain ⟨m, he, hw, hb⟩ := dma_fold v (List.range 160) s
  exact ⟨m, he, hw, hb (by simp)⟩

theorem dma_fold_cpu (v : Byte) (l : List Nat) (s : State) (c : Cpu) :
    l.foldl (fun t i => t.storeByte (oamAddr i) (busRead t (dmaSource v i))) { s with cpu := c } =
      { l.foldl (fun t i => t.storeByte (oamAddr i) (busRead t (dmaSource v i))) s with cpu := c } := by
  induction l generalizing s with
  | nil => rfl
  | cons i rest ih => exact ih (s.storeByte (oamAddr i) (busRead s (dmaSource v i)))

theorem dmaCopy_cpu (v : Byte) (s : State) (c : Cpu) : dmaCopy v { s with cpu := c } = { dmaCopy v s with cpu := c } :=
  dma_fold_cpu v _ s c

/-! ### What a write can do -/

/-- What a bus write leaves alone and what it keeps. -/
structure WriteKeeps (s t : State) : Prop where
  cpu : t.cpu = s.cpu
  out : t.out = s.out
  devices : DevicesHeld s t
  divider : s.timer.divRemainder < 64 → t.timer.divRemainder < 64
  canonical : s.mem.wf = true → t.mem.wf = true
  storage : (∀ cell ∈ s.mem, backed cell.1 = true) → ∀ cell ∈ t.mem, backed cell.1 = true
  flat : t.cart = .flatRom ↔ s.cart = .flatRom

theorem DevicesHeld.refl (s : State) : DevicesHeld s s := by constructor <;> first | rfl | exact ⟨rfl, rfl⟩

theorem DevicesHeld.trans {s t u : State} (h : DevicesHeld s t) (k : DevicesHeld t u) : DevicesHeld s u where
  mode := k.mode.trans h.mode
  dots := k.dots.trans h.dots
  line := k.line.trans h.line
  windowLine := k.windowLine.trans h.windowLine
  sprites := k.sprites.trans h.sprites
  bgIdx := k.bgIdx.trans h.bgIdx
  frame := k.frame.trans h.frame
  statLine := k.statLine.trans h.statLine
  ppuRequests := ⟨k.ppuRequests.1.trans h.ppuRequests.1, k.ppuRequests.2.trans h.ppuRequests.2⟩
  statLow := k.statLow.trans h.statLow
  timerRequest := k.timerRequest.trans h.timerRequest
  timaRemainder := k.timaRemainder.trans h.timaRemainder
  frames := k.frames.trans h.frames

theorem WriteKeeps.refl (s : State) : WriteKeeps s s :=
  ⟨rfl, rfl, .refl s, id, id, id, Iff.rfl⟩

theorem WriteKeeps.trans {s t u : State} (h : WriteKeeps s t) (k : WriteKeeps t u) : WriteKeeps s u :=
  ⟨k.cpu.trans h.cpu, k.out.trans h.out, h.devices.trans k.devices, k.divider ∘ h.divider, k.canonical ∘ h.canonical,
    k.storage ∘ h.storage, k.flat.trans h.flat⟩

theorem stat_write_low (old v : Byte) : ((old &&& 0x07) ||| (v &&& 0xF8)) &&& 0x07 = old &&& 0x07 := by
  apply BitVec.eq_of_getLsbD_eq
  intro i hi
  rcases i with _ | _ | _ | _ | _ | _ | _ | _ | i
  all_goals first | omega | simp

theorem storeByte_keeps (s : State) (n : Nat) (v : Byte) (h : backed n = true) : WriteKeeps s (s.storeByte n v) where
  cpu := rfl
  out := rfl
  devices := by constructor <;> first | rfl | exact ⟨rfl, rfl⟩
  divider := id
  canonical := Memory.wf_write n v
  storage := fun hs cell hc => by
    rcases Memory.mem_write _ _ _ cell hc with h' | h'
    · exact hs cell h'
    · rw [h']; exact h
  flat := Iff.rfl

theorem ioWrite_keeps (s : State) (r : IoReg) (v : Byte) : WriteKeeps s (ioWrite s r v) := by
  cases r
  case dma =>
    obtain ⟨m, he, hw, hb⟩ := dmaCopy_mem v { s with ppu.dma := v }
    simp only [ioWrite, he]
    exact ⟨rfl, rfl, by constructor <;> first | rfl | exact ⟨rfl, rfl⟩, id, hw, hb, Iff.rfl⟩
  case stat =>
    exact ⟨rfl, rfl, by constructor <;> first | rfl | exact ⟨rfl, rfl⟩ | exact stat_write_low s.ppu.stat v, id, id, id, Iff.rfl⟩
  case div =>
    exact ⟨rfl, rfl, by constructor <;> first | rfl | exact ⟨rfl, rfl⟩, fun _ => by simp [ioWrite], id, id, Iff.rfl⟩
  case ly => exact .refl s
  all_goals exact ⟨rfl, rfl, by constructor <;> first | rfl | exact ⟨rfl, rfl⟩, id, id, id, Iff.rfl⟩

theorem cartWrite_keeps (s : State) (a : Addr) (v : Byte) : WriteKeeps s (cartWrite s a v) := by
  unfold cartWrite
  split
  · exact .refl s
  · rename_i inner h
    exact ⟨rfl, rfl, by constructor <;> first | rfl | exact ⟨rfl, rfl⟩, id, id, id, by simp [h]⟩

/-! ### The regions by their ranges (20_memory.md R51) -/

/-- Every address is in exactly one row of the decoder. -/
theorem regionOf_cases (a : Addr) :
    (regionOf a = .rom ∧ a.toNat ≤ 0x7FFF)
      ∨ (regionOf a = .vram ∧ 0x8000 ≤ a.toNat ∧ a.toNat ≤ 0x9FFF)
      ∨ (regionOf a = .extRam ∧ 0xA000 ≤ a.toNat ∧ a.toNat ≤ 0xBFFF)
      ∨ (regionOf a = .wram ∧ 0xC000 ≤ a.toNat ∧ a.toNat ≤ 0xDFFF)
      ∨ (regionOf a = .echo ∧ 0xE000 ≤ a.toNat ∧ a.toNat ≤ 0xFDFF)
      ∨ (regionOf a = .oam ∧ 0xFE00 ≤ a.toNat ∧ a.toNat ≤ 0xFE9F)
      ∨ (regionOf a = .unusable ∧ 0xFEA0 ≤ a.toNat ∧ a.toNat ≤ 0xFEFF)
      ∨ (regionOf a = .io ∧ 0xFF00 ≤ a.toNat ∧ a.toNat ≤ 0xFF7F)
      ∨ (regionOf a = .hram ∧ 0xFF80 ≤ a.toNat ∧ a.toNat ≤ 0xFFFE)
      ∨ (regionOf a = .ie ∧ a.toNat = 0xFFFF) := by
  have := a.isLt
  unfold regionOf
  dsimp only
  by_cases h0 : a.toNat ≤ 0x7FFF
  · rw [if_pos h0]; simp only [reduceCtorEq, false_and, or_false, true_and]; omega
  rw [if_neg h0]
  by_cases h1 : a.toNat ≤ 0x9FFF
  · rw [if_pos h1]; simp only [reduceCtorEq, false_and, false_or, or_false, true_and]; omega
  rw [if_neg h1]
  by_cases h2 : a.toNat ≤ 0xBFFF
  · rw [if_pos h2]; simp only [reduceCtorEq, false_and, false_or, or_false, true_and]; omega
  rw [if_neg h2]
  by_cases h3 : a.toNat ≤ 0xDFFF
  · rw [if_pos h3]; simp only [reduceCtorEq, false_and, false_or, or_false, true_and]; omega
  rw [if_neg h3]
  by_cases h4 : a.toNat ≤ 0xFDFF
  · rw [if_pos h4]; simp only [reduceCtorEq, false_and, false_or, or_false, true_and]; omega
  rw [if_neg h4]
  by_cases h5 : a.toNat ≤ 0xFE9F
  · rw [if_pos h5]; simp only [reduceCtorEq, false_and, false_or, or_false, true_and]; omega
  rw [if_neg h5]
  by_cases h6 : a.toNat ≤ 0xFEFF
  · rw [if_pos h6]; simp only [reduceCtorEq, false_and, false_or, or_false, true_and]; omega
  rw [if_neg h6]
  by_cases h7 : a.toNat ≤ 0xFF7F
  · rw [if_pos h7]; simp only [reduceCtorEq, false_and, false_or, or_false, true_and]; omega
  rw [if_neg h7]
  by_cases h8 : a.toNat ≤ 0xFFFE
  · rw [if_pos h8]; simp only [reduceCtorEq, false_and, false_or, or_false, true_and]; omega
  rw [if_neg h8]
  simp only [reduceCtorEq, false_and, false_or, true_and]; omega

theorem regionOf_rom (a : Addr) : regionOf a = .rom ↔ a.toNat ≤ 0x7FFF := by
  rcases regionOf_cases a with h | h | h | h | h | h | h | h | h | h <;> rw [h.1] <;>
    simp only [reduceCtorEq, true_iff, false_iff] <;> omega

theorem regionOf_vram (a : Addr) : regionOf a = .vram ↔ 0x8000 ≤ a.toNat ∧ a.toNat ≤ 0x9FFF := by
  rcases regionOf_cases a with h | h | h | h | h | h | h | h | h | h <;> rw [h.1] <;>
    simp only [reduceCtorEq, true_iff, false_iff] <;> omega

theorem regionOf_extRam (a : Addr) : regionOf a = .extRam ↔ 0xA000 ≤ a.toNat ∧ a.toNat ≤ 0xBFFF := by
  rcases regionOf_cases a with h | h | h | h | h | h | h | h | h | h <;> rw [h.1] <;>
    simp only [reduceCtorEq, true_iff, false_iff] <;> omega

theorem regionOf_wram (a : Addr) : regionOf a = .wram ↔ 0xC000 ≤ a.toNat ∧ a.toNat ≤ 0xDFFF := by
  rcases regionOf_cases a with h | h | h | h | h | h | h | h | h | h <;> rw [h.1] <;>
    simp only [reduceCtorEq, true_iff, false_iff] <;> omega

theorem regionOf_echo (a : Addr) : regionOf a = .echo ↔ 0xE000 ≤ a.toNat ∧ a.toNat ≤ 0xFDFF := by
  rcases regionOf_cases a with h | h | h | h | h | h | h | h | h | h <;> rw [h.1] <;>
    simp only [reduceCtorEq, true_iff, false_iff] <;> omega

theorem regionOf_oam (a : Addr) : regionOf a = .oam ↔ 0xFE00 ≤ a.toNat ∧ a.toNat ≤ 0xFE9F := by
  rcases regionOf_cases a with h | h | h | h | h | h | h | h | h | h <;> rw [h.1] <;>
    simp only [reduceCtorEq, true_iff, false_iff] <;> omega

theorem regionOf_unusable (a : Addr) : regionOf a = .unusable ↔ 0xFEA0 ≤ a.toNat ∧ a.toNat ≤ 0xFEFF := by
  rcases regionOf_cases a with h | h | h | h | h | h | h | h | h | h <;> rw [h.1] <;>
    simp only [reduceCtorEq, true_iff, false_iff] <;> omega

theorem regionOf_io (a : Addr) : regionOf a = .io ↔ 0xFF00 ≤ a.toNat ∧ a.toNat ≤ 0xFF7F := by
  rcases regionOf_cases a with h | h | h | h | h | h | h | h | h | h <;> rw [h.1] <;>
    simp only [reduceCtorEq, true_iff, false_iff] <;> omega

theorem regionOf_hram (a : Addr) : regionOf a = .hram ↔ 0xFF80 ≤ a.toNat ∧ a.toNat ≤ 0xFFFE := by
  rcases regionOf_cases a with h | h | h | h | h | h | h | h | h | h <;> rw [h.1] <;>
    simp only [reduceCtorEq, true_iff, false_iff] <;> omega

theorem regionOf_ie (a : Addr) : regionOf a = .ie ↔ a.toNat = 0xFFFF := by
  rcases regionOf_cases a with h | h | h | h | h | h | h | h | h | h <;> rw [h.1] <;>
    simp only [reduceCtorEq, true_iff, false_iff] <;> omega

/-- The addresses of each region of plain storage are backed. -/
theorem backed_of_region {a : Addr}
    (h : regionOf a = .vram ∨ regionOf a = .wram ∨ regionOf a = .hram ∨ regionOf a = .oam) : backed a.toNat = true := by
  rw [regionOf_vram, regionOf_wram, regionOf_hram, regionOf_oam] at h
  simp only [backed, Bool.or_eq_true, Bool.and_eq_true, decide_eq_true_eq]
  omega

/-- What every bus write leaves alone and keeps (20_memory.md R65). -/
theorem busWrite_keeps (s : State) (a : Addr) (v : Byte) : WriteKeeps s (busWrite s a v) := by
  unfold busWrite
  split
  · exact cartWrite_keeps s a v
  · exact cartWrite_keeps s a v
  · rename_i h
    split
    · exact .refl s
    · exact storeByte_keeps _ _ _ (backed_of_region (.inl h))
  · rename_i h; exact storeByte_keeps _ _ _ (backed_of_region (.inr (.inl h)))
  · rename_i h; exact storeByte_keeps _ _ _ (backed_of_region (.inr (.inr (.inl h))))
  · rename_i h
    split
    · exact .refl s
    · exact storeByte_keeps _ _ _ (backed_of_region (.inr (.inr (.inr h))))
  · exact .refl s
  · exact .refl s
  · split
    · exact ioWrite_keeps s _ v
    · exact .refl s
  · exact ⟨rfl, rfl, by constructor <;> first | rfl | exact ⟨rfl, rfl⟩, id, id, id, Iff.rfl⟩

theorem cartWrite_cpu (s : State) (c : Cpu) (a : Addr) (v : Byte) :
    cartWrite { s with cpu := c } a v = { cartWrite s a v with cpu := c } := by
  obtain ⟨_, _, _, _, _, cart, _⟩ := s
  cases cart <;> rfl

/-- A bus write neither reads nor writes the CPU. -/
theorem busWrite_cpu (s : State) (c : Cpu) (a : Addr) (v : Byte) :
    busWrite { s with cpu := c } a v = { busWrite s a v with cpu := c } := by
  unfold busWrite
  split
  all_goals try rfl
  · exact cartWrite_cpu s c a v
  · exact cartWrite_cpu s c a v
  · dsimp only; split <;> rfl
  · dsimp only; split <;> rfl
  · split
    · rename_i r _
      cases r
      case dma => exact dmaCopy_cpu v { s with ppu.dma := v } c
      all_goals rfl
    · rfl

@[simp] theorem busWrite_cpu_eq (s : State) (a : Addr) (v : Byte) : (busWrite s a v).cpu = s.cpu := (busWrite_keeps s a v).cpu

end Sys2Proof.Machine
end

