-- ==== Sys2Proof/Laws/Flags.lean ====
section
/-! SUPPORT. F and the four flags. -/

namespace Sys2Proof.Machine

@[simp] theorem Flags.pack_mask (fl : Flags) : fl.pack &&& 240#8 = fl.pack := by
  rcases fl with ⟨_ | _, _ | _, _ | _, _ | _⟩ <;> rfl

@[simp] theorem Flags.unpack_pack (fl : Flags) : Flags.unpack fl.pack = fl := by
  rcases fl with ⟨_ | _, _ | _, _ | _, _ | _⟩ <;> rfl

@[simp] theorem State.flags_setFlags (s : State) (fl : Flags) : (s.setFlags fl).flags = fl := by
  show Flags.unpack (fl.pack &&& 240#8) = fl
  rw [Flags.pack_mask, Flags.unpack_pack]

theorem and_mask_low (f : Byte) : f &&& 0xF0 &&& 0x0F = 0 := by
  rw [BitVec.and_assoc]; simp

/-- Packing the flags gives an F that holds exactly them. -/
theorem Flags.flagsAre_pack (fl : Flags) : FlagsAre fl.pack fl.z fl.n fl.h fl.c := by
  rcases fl with ⟨_ | _, _ | _, _ | _, _ | _⟩ <;> (unfold FlagsAre; decide)

theorem State.flags_z (s : State) : s.flags.z = zeroFlag s := rfl
theorem State.flags_n (s : State) : s.flags.n = subFlag s := rfl
theorem State.flags_h (s : State) : s.flags.h = halfFlag s := rfl
theorem State.flags_c (s : State) : s.flags.c = carryFlag s := rfl

theorem State.holds_eq (s : State) (cc : Cond) : s.holds cc = condition s cc := by cases cc <;> rfl

end Sys2Proof.Machine
end

