-- ==== Sys2Proof/Laws/State.lean ====
section
/-! SUPPORT. One lemma for each field under each update, true by unfolding, so that no later proof unfolds a record update. -/

namespace Sys2Proof.Machine

@[simp] theorem State.took_a (s : State) (n : Nat) : (s.took n).cpu.a = s.cpu.a := rfl
@[simp] theorem State.took_f (s : State) (n : Nat) : (s.took n).cpu.f = s.cpu.f := rfl
@[simp] theorem State.took_b (s : State) (n : Nat) : (s.took n).cpu.b = s.cpu.b := rfl
@[simp] theorem State.took_c (s : State) (n : Nat) : (s.took n).cpu.c = s.cpu.c := rfl
@[simp] theorem State.took_d (s : State) (n : Nat) : (s.took n).cpu.d = s.cpu.d := rfl
@[simp] theorem State.took_e (s : State) (n : Nat) : (s.took n).cpu.e = s.cpu.e := rfl
@[simp] theorem State.took_h (s : State) (n : Nat) : (s.took n).cpu.h = s.cpu.h := rfl
@[simp] theorem State.took_l (s : State) (n : Nat) : (s.took n).cpu.l = s.cpu.l := rfl
@[simp] theorem State.took_sp (s : State) (n : Nat) : (s.took n).cpu.sp = s.cpu.sp := rfl
@[simp] theorem State.took_pc (s : State) (n : Nat) : (s.took n).cpu.pc = s.cpu.pc := rfl
@[simp] theorem State.took_ime (s : State) (n : Nat) : (s.took n).cpu.ime = s.cpu.ime := rfl
@[simp] theorem State.took_imeDelay (s : State) (n : Nat) : (s.took n).cpu.imeDelay = s.cpu.imeDelay := rfl
@[simp] theorem State.took_halted (s : State) (n : Nat) : (s.took n).cpu.halted = s.cpu.halted := rfl
@[simp] theorem State.took_cycles (s : State) (n : Nat) : (s.took n).cpu.cycles = n := rfl
@[simp] theorem State.took_bus (s : State) (n : Nat) : (s.took n).bus = s.bus := rfl
@[simp] theorem State.took_timer (s : State) (n : Nat) : (s.took n).timer = s.timer := rfl
@[simp] theorem State.took_ppu (s : State) (n : Nat) : (s.took n).ppu = s.ppu := rfl
@[simp] theorem State.took_mem (s : State) (n : Nat) : (s.took n).mem = s.mem := rfl
@[simp] theorem State.took_cart (s : State) (n : Nat) : (s.took n).cart = s.cart := rfl
@[simp] theorem State.took_out (s : State) (n : Nat) : (s.took n).out = s.out := rfl

@[simp] theorem State.setPc_a (s : State) (v : Addr) : (s.setPc v).cpu.a = s.cpu.a := rfl
@[simp] theorem State.setPc_f (s : State) (v : Addr) : (s.setPc v).cpu.f = s.cpu.f := rfl
@[simp] theorem State.setPc_b (s : State) (v : Addr) : (s.setPc v).cpu.b = s.cpu.b := rfl
@[simp] theorem State.setPc_c (s : State) (v : Addr) : (s.setPc v).cpu.c = s.cpu.c := rfl
@[simp] theorem State.setPc_d (s : State) (v : Addr) : (s.setPc v).cpu.d = s.cpu.d := rfl
@[simp] theorem State.setPc_e (s : State) (v : Addr) : (s.setPc v).cpu.e = s.cpu.e := rfl
@[simp] theorem State.setPc_h (s : State) (v : Addr) : (s.setPc v).cpu.h = s.cpu.h := rfl
@[simp] theorem State.setPc_l (s : State) (v : Addr) : (s.setPc v).cpu.l = s.cpu.l := rfl
@[simp] theorem State.setPc_sp (s : State) (v : Addr) : (s.setPc v).cpu.sp = s.cpu.sp := rfl
@[simp] theorem State.setPc_pc (s : State) (v : Addr) : (s.setPc v).cpu.pc = v := rfl
@[simp] theorem State.setPc_ime (s : State) (v : Addr) : (s.setPc v).cpu.ime = s.cpu.ime := rfl
@[simp] theorem State.setPc_imeDelay (s : State) (v : Addr) : (s.setPc v).cpu.imeDelay = s.cpu.imeDelay := rfl
@[simp] theorem State.setPc_halted (s : State) (v : Addr) : (s.setPc v).cpu.halted = s.cpu.halted := rfl
@[simp] theorem State.setPc_cycles (s : State) (v : Addr) : (s.setPc v).cpu.cycles = s.cpu.cycles := rfl
@[simp] theorem State.setPc_bus (s : State) (v : Addr) : (s.setPc v).bus = s.bus := rfl
@[simp] theorem State.setPc_timer (s : State) (v : Addr) : (s.setPc v).timer = s.timer := rfl
@[simp] theorem State.setPc_ppu (s : State) (v : Addr) : (s.setPc v).ppu = s.ppu := rfl
@[simp] theorem State.setPc_mem (s : State) (v : Addr) : (s.setPc v).mem = s.mem := rfl
@[simp] theorem State.setPc_cart (s : State) (v : Addr) : (s.setPc v).cart = s.cart := rfl
@[simp] theorem State.setPc_out (s : State) (v : Addr) : (s.setPc v).out = s.out := rfl

@[simp] theorem State.setSp_a (s : State) (v : Addr) : (s.setSp v).cpu.a = s.cpu.a := rfl
@[simp] theorem State.setSp_f (s : State) (v : Addr) : (s.setSp v).cpu.f = s.cpu.f := rfl
@[simp] theorem State.setSp_b (s : State) (v : Addr) : (s.setSp v).cpu.b = s.cpu.b := rfl
@[simp] theorem State.setSp_c (s : State) (v : Addr) : (s.setSp v).cpu.c = s.cpu.c := rfl
@[simp] theorem State.setSp_d (s : State) (v : Addr) : (s.setSp v).cpu.d = s.cpu.d := rfl
@[simp] theorem State.setSp_e (s : State) (v : Addr) : (s.setSp v).cpu.e = s.cpu.e := rfl
@[simp] theorem State.setSp_h (s : State) (v : Addr) : (s.setSp v).cpu.h = s.cpu.h := rfl
@[simp] theorem State.setSp_l (s : State) (v : Addr) : (s.setSp v).cpu.l = s.cpu.l := rfl
@[simp] theorem State.setSp_sp (s : State) (v : Addr) : (s.setSp v).cpu.sp = v := rfl
@[simp] theorem State.setSp_pc (s : State) (v : Addr) : (s.setSp v).cpu.pc = s.cpu.pc := rfl
@[simp] theorem State.setSp_ime (s : State) (v : Addr) : (s.setSp v).cpu.ime = s.cpu.ime := rfl
@[simp] theorem State.setSp_imeDelay (s : State) (v : Addr) : (s.setSp v).cpu.imeDelay = s.cpu.imeDelay := rfl
@[simp] theorem State.setSp_halted (s : State) (v : Addr) : (s.setSp v).cpu.halted = s.cpu.halted := rfl
@[simp] theorem State.setSp_cycles (s : State) (v : Addr) : (s.setSp v).cpu.cycles = s.cpu.cycles := rfl
@[simp] theorem State.setSp_bus (s : State) (v : Addr) : (s.setSp v).bus = s.bus := rfl
@[simp] theorem State.setSp_timer (s : State) (v : Addr) : (s.setSp v).timer = s.timer := rfl
@[simp] theorem State.setSp_ppu (s : State) (v : Addr) : (s.setSp v).ppu = s.ppu := rfl
@[simp] theorem State.setSp_mem (s : State) (v : Addr) : (s.setSp v).mem = s.mem := rfl
@[simp] theorem State.setSp_cart (s : State) (v : Addr) : (s.setSp v).cart = s.cart := rfl
@[simp] theorem State.setSp_out (s : State) (v : Addr) : (s.setSp v).out = s.out := rfl

@[simp] theorem State.setA_a (s : State) (v : Byte) : (s.setA v).cpu.a = v := rfl
@[simp] theorem State.setA_f (s : State) (v : Byte) : (s.setA v).cpu.f = s.cpu.f := rfl
@[simp] theorem State.setA_b (s : State) (v : Byte) : (s.setA v).cpu.b = s.cpu.b := rfl
@[simp] theorem State.setA_c (s : State) (v : Byte) : (s.setA v).cpu.c = s.cpu.c := rfl
@[simp] theorem State.setA_d (s : State) (v : Byte) : (s.setA v).cpu.d = s.cpu.d := rfl
@[simp] theorem State.setA_e (s : State) (v : Byte) : (s.setA v).cpu.e = s.cpu.e := rfl
@[simp] theorem State.setA_h (s : State) (v : Byte) : (s.setA v).cpu.h = s.cpu.h := rfl
@[simp] theorem State.setA_l (s : State) (v : Byte) : (s.setA v).cpu.l = s.cpu.l := rfl
@[simp] theorem State.setA_sp (s : State) (v : Byte) : (s.setA v).cpu.sp = s.cpu.sp := rfl
@[simp] theorem State.setA_pc (s : State) (v : Byte) : (s.setA v).cpu.pc = s.cpu.pc := rfl
@[simp] theorem State.setA_ime (s : State) (v : Byte) : (s.setA v).cpu.ime = s.cpu.ime := rfl
@[simp] theorem State.setA_imeDelay (s : State) (v : Byte) : (s.setA v).cpu.imeDelay = s.cpu.imeDelay := rfl
@[simp] theorem State.setA_halted (s : State) (v : Byte) : (s.setA v).cpu.halted = s.cpu.halted := rfl
@[simp] theorem State.setA_cycles (s : State) (v : Byte) : (s.setA v).cpu.cycles = s.cpu.cycles := rfl
@[simp] theorem State.setA_bus (s : State) (v : Byte) : (s.setA v).bus = s.bus := rfl
@[simp] theorem State.setA_timer (s : State) (v : Byte) : (s.setA v).timer = s.timer := rfl
@[simp] theorem State.setA_ppu (s : State) (v : Byte) : (s.setA v).ppu = s.ppu := rfl
@[simp] theorem State.setA_mem (s : State) (v : Byte) : (s.setA v).mem = s.mem := rfl
@[simp] theorem State.setA_cart (s : State) (v : Byte) : (s.setA v).cart = s.cart := rfl
@[simp] theorem State.setA_out (s : State) (v : Byte) : (s.setA v).out = s.out := rfl

@[simp] theorem State.setF_a (s : State) (v : Byte) : (s.setF v).cpu.a = s.cpu.a := rfl
@[simp] theorem State.setF_f (s : State) (v : Byte) : (s.setF v).cpu.f = v &&& 0xF0 := rfl
@[simp] theorem State.setF_b (s : State) (v : Byte) : (s.setF v).cpu.b = s.cpu.b := rfl
@[simp] theorem State.setF_c (s : State) (v : Byte) : (s.setF v).cpu.c = s.cpu.c := rfl
@[simp] theorem State.setF_d (s : State) (v : Byte) : (s.setF v).cpu.d = s.cpu.d := rfl
@[simp] theorem State.setF_e (s : State) (v : Byte) : (s.setF v).cpu.e = s.cpu.e := rfl
@[simp] theorem State.setF_h (s : State) (v : Byte) : (s.setF v).cpu.h = s.cpu.h := rfl
@[simp] theorem State.setF_l (s : State) (v : Byte) : (s.setF v).cpu.l = s.cpu.l := rfl
@[simp] theorem State.setF_sp (s : State) (v : Byte) : (s.setF v).cpu.sp = s.cpu.sp := rfl
@[simp] theorem State.setF_pc (s : State) (v : Byte) : (s.setF v).cpu.pc = s.cpu.pc := rfl
@[simp] theorem State.setF_ime (s : State) (v : Byte) : (s.setF v).cpu.ime = s.cpu.ime := rfl
@[simp] theorem State.setF_imeDelay (s : State) (v : Byte) : (s.setF v).cpu.imeDelay = s.cpu.imeDelay := rfl
@[simp] theorem State.setF_halted (s : State) (v : Byte) : (s.setF v).cpu.halted = s.cpu.halted := rfl
@[simp] theorem State.setF_cycles (s : State) (v : Byte) : (s.setF v).cpu.cycles = s.cpu.cycles := rfl
@[simp] theorem State.setF_bus (s : State) (v : Byte) : (s.setF v).bus = s.bus := rfl
@[simp] theorem State.setF_timer (s : State) (v : Byte) : (s.setF v).timer = s.timer := rfl
@[simp] theorem State.setF_ppu (s : State) (v : Byte) : (s.setF v).ppu = s.ppu := rfl
@[simp] theorem State.setF_mem (s : State) (v : Byte) : (s.setF v).mem = s.mem := rfl
@[simp] theorem State.setF_cart (s : State) (v : Byte) : (s.setF v).cart = s.cart := rfl
@[simp] theorem State.setF_out (s : State) (v : Byte) : (s.setF v).out = s.out := rfl

@[simp] theorem State.setFlags_a (s : State) (fl : Flags) : (s.setFlags fl).cpu.a = s.cpu.a := rfl
@[simp] theorem State.setFlags_f (s : State) (fl : Flags) : (s.setFlags fl).cpu.f = fl.pack &&& 0xF0 := rfl
@[simp] theorem State.setFlags_b (s : State) (fl : Flags) : (s.setFlags fl).cpu.b = s.cpu.b := rfl
@[simp] theorem State.setFlags_c (s : State) (fl : Flags) : (s.setFlags fl).cpu.c = s.cpu.c := rfl
@[simp] theorem State.setFlags_d (s : State) (fl : Flags) : (s.setFlags fl).cpu.d = s.cpu.d := rfl
@[simp] theorem State.setFlags_e (s : State) (fl : Flags) : (s.setFlags fl).cpu.e = s.cpu.e := rfl
@[simp] theorem State.setFlags_h (s : State) (fl : Flags) : (s.setFlags fl).cpu.h = s.cpu.h := rfl
@[simp] theorem State.setFlags_l (s : State) (fl : Flags) : (s.setFlags fl).cpu.l = s.cpu.l := rfl
@[simp] theorem State.setFlags_sp (s : State) (fl : Flags) : (s.setFlags fl).cpu.sp = s.cpu.sp := rfl
@[simp] theorem State.setFlags_pc (s : State) (fl : Flags) : (s.setFlags fl).cpu.pc = s.cpu.pc := rfl
@[simp] theorem State.setFlags_ime (s : State) (fl : Flags) : (s.setFlags fl).cpu.ime = s.cpu.ime := rfl
@[simp] theorem State.setFlags_imeDelay (s : State) (fl : Flags) : (s.setFlags fl).cpu.imeDelay = s.cpu.imeDelay := rfl
@[simp] theorem State.setFlags_halted (s : State) (fl : Flags) : (s.setFlags fl).cpu.halted = s.cpu.halted := rfl
@[simp] theorem State.setFlags_cycles (s : State) (fl : Flags) : (s.setFlags fl).cpu.cycles = s.cpu.cycles := rfl
@[simp] theorem State.setFlags_bus (s : State) (fl : Flags) : (s.setFlags fl).bus = s.bus := rfl
@[simp] theorem State.setFlags_timer (s : State) (fl : Flags) : (s.setFlags fl).timer = s.timer := rfl
@[simp] theorem State.setFlags_ppu (s : State) (fl : Flags) : (s.setFlags fl).ppu = s.ppu := rfl
@[simp] theorem State.setFlags_mem (s : State) (fl : Flags) : (s.setFlags fl).mem = s.mem := rfl
@[simp] theorem State.setFlags_cart (s : State) (fl : Flags) : (s.setFlags fl).cart = s.cart := rfl
@[simp] theorem State.setFlags_out (s : State) (fl : Flags) : (s.setFlags fl).out = s.out := rfl

@[simp] theorem State.setIme_a (s : State) (v : Bool) : (s.setIme v).cpu.a = s.cpu.a := rfl
@[simp] theorem State.setIme_f (s : State) (v : Bool) : (s.setIme v).cpu.f = s.cpu.f := rfl
@[simp] theorem State.setIme_b (s : State) (v : Bool) : (s.setIme v).cpu.b = s.cpu.b := rfl
@[simp] theorem State.setIme_c (s : State) (v : Bool) : (s.setIme v).cpu.c = s.cpu.c := rfl
@[simp] theorem State.setIme_d (s : State) (v : Bool) : (s.setIme v).cpu.d = s.cpu.d := rfl
@[simp] theorem State.setIme_e (s : State) (v : Bool) : (s.setIme v).cpu.e = s.cpu.e := rfl
@[simp] theorem State.setIme_h (s : State) (v : Bool) : (s.setIme v).cpu.h = s.cpu.h := rfl
@[simp] theorem State.setIme_l (s : State) (v : Bool) : (s.setIme v).cpu.l = s.cpu.l := rfl
@[simp] theorem State.setIme_sp (s : State) (v : Bool) : (s.setIme v).cpu.sp = s.cpu.sp := rfl
@[simp] theorem State.setIme_pc (s : State) (v : Bool) : (s.setIme v).cpu.pc = s.cpu.pc := rfl
@[simp] theorem State.setIme_ime (s : State) (v : Bool) : (s.setIme v).cpu.ime = v := rfl
@[simp] theorem State.setIme_imeDelay (s : State) (v : Bool) : (s.setIme v).cpu.imeDelay = s.cpu.imeDelay := rfl
@[simp] theorem State.setIme_halted (s : State) (v : Bool) : (s.setIme v).cpu.halted = s.cpu.halted := rfl
@[simp] theorem State.setIme_cycles (s : State) (v : Bool) : (s.setIme v).cpu.cycles = s.cpu.cycles := rfl
@[simp] theorem State.setIme_bus (s : State) (v : Bool) : (s.setIme v).bus = s.bus := rfl
@[simp] theorem State.setIme_timer (s : State) (v : Bool) : (s.setIme v).timer = s.timer := rfl
@[simp] theorem State.setIme_ppu (s : State) (v : Bool) : (s.setIme v).ppu = s.ppu := rfl
@[simp] theorem State.setIme_mem (s : State) (v : Bool) : (s.setIme v).mem = s.mem := rfl
@[simp] theorem State.setIme_cart (s : State) (v : Bool) : (s.setIme v).cart = s.cart := rfl
@[simp] theorem State.setIme_out (s : State) (v : Bool) : (s.setIme v).out = s.out := rfl

@[simp] theorem State.setImeDelay_a (s : State) (n : Nat) : (s.setImeDelay n).cpu.a = s.cpu.a := rfl
@[simp] theorem State.setImeDelay_f (s : State) (n : Nat) : (s.setImeDelay n).cpu.f = s.cpu.f := rfl
@[simp] theorem State.setImeDelay_b (s : State) (n : Nat) : (s.setImeDelay n).cpu.b = s.cpu.b := rfl
@[simp] theorem State.setImeDelay_c (s : State) (n : Nat) : (s.setImeDelay n).cpu.c = s.cpu.c := rfl
@[simp] theorem State.setImeDelay_d (s : State) (n : Nat) : (s.setImeDelay n).cpu.d = s.cpu.d := rfl
@[simp] theorem State.setImeDelay_e (s : State) (n : Nat) : (s.setImeDelay n).cpu.e = s.cpu.e := rfl
@[simp] theorem State.setImeDelay_h (s : State) (n : Nat) : (s.setImeDelay n).cpu.h = s.cpu.h := rfl
@[simp] theorem State.setImeDelay_l (s : State) (n : Nat) : (s.setImeDelay n).cpu.l = s.cpu.l := rfl
@[simp] theorem State.setImeDelay_sp (s : State) (n : Nat) : (s.setImeDelay n).cpu.sp = s.cpu.sp := rfl
@[simp] theorem State.setImeDelay_pc (s : State) (n : Nat) : (s.setImeDelay n).cpu.pc = s.cpu.pc := rfl
@[simp] theorem State.setImeDelay_ime (s : State) (n : Nat) : (s.setImeDelay n).cpu.ime = s.cpu.ime := rfl
@[simp] theorem State.setImeDelay_imeDelay (s : State) (n : Nat) : (s.setImeDelay n).cpu.imeDelay = n := rfl
@[simp] theorem State.setImeDelay_halted (s : State) (n : Nat) : (s.setImeDelay n).cpu.halted = s.cpu.halted := rfl
@[simp] theorem State.setImeDelay_cycles (s : State) (n : Nat) : (s.setImeDelay n).cpu.cycles = s.cpu.cycles := rfl
@[simp] theorem State.setImeDelay_bus (s : State) (n : Nat) : (s.setImeDelay n).bus = s.bus := rfl
@[simp] theorem State.setImeDelay_timer (s : State) (n : Nat) : (s.setImeDelay n).timer = s.timer := rfl
@[simp] theorem State.setImeDelay_ppu (s : State) (n : Nat) : (s.setImeDelay n).ppu = s.ppu := rfl
@[simp] theorem State.setImeDelay_mem (s : State) (n : Nat) : (s.setImeDelay n).mem = s.mem := rfl
@[simp] theorem State.setImeDelay_cart (s : State) (n : Nat) : (s.setImeDelay n).cart = s.cart := rfl
@[simp] theorem State.setImeDelay_out (s : State) (n : Nat) : (s.setImeDelay n).out = s.out := rfl

@[simp] theorem State.setHalted_a (s : State) (v : Bool) : (s.setHalted v).cpu.a = s.cpu.a := rfl
@[simp] theorem State.setHalted_f (s : State) (v : Bool) : (s.setHalted v).cpu.f = s.cpu.f := rfl
@[simp] theorem State.setHalted_b (s : State) (v : Bool) : (s.setHalted v).cpu.b = s.cpu.b := rfl
@[simp] theorem State.setHalted_c (s : State) (v : Bool) : (s.setHalted v).cpu.c = s.cpu.c := rfl
@[simp] theorem State.setHalted_d (s : State) (v : Bool) : (s.setHalted v).cpu.d = s.cpu.d := rfl
@[simp] theorem State.setHalted_e (s : State) (v : Bool) : (s.setHalted v).cpu.e = s.cpu.e := rfl
@[simp] theorem State.setHalted_h (s : State) (v : Bool) : (s.setHalted v).cpu.h = s.cpu.h := rfl
@[simp] theorem State.setHalted_l (s : State) (v : Bool) : (s.setHalted v).cpu.l = s.cpu.l := rfl
@[simp] theorem State.setHalted_sp (s : State) (v : Bool) : (s.setHalted v).cpu.sp = s.cpu.sp := rfl
@[simp] theorem State.setHalted_pc (s : State) (v : Bool) : (s.setHalted v).cpu.pc = s.cpu.pc := rfl
@[simp] theorem State.setHalted_ime (s : State) (v : Bool) : (s.setHalted v).cpu.ime = s.cpu.ime := rfl
@[simp] theorem State.setHalted_imeDelay (s : State) (v : Bool) : (s.setHalted v).cpu.imeDelay = s.cpu.imeDelay := rfl
@[simp] theorem State.setHalted_halted (s : State) (v : Bool) : (s.setHalted v).cpu.halted = v := rfl
@[simp] theorem State.setHalted_cycles (s : State) (v : Bool) : (s.setHalted v).cpu.cycles = s.cpu.cycles := rfl
@[simp] theorem State.setHalted_bus (s : State) (v : Bool) : (s.setHalted v).bus = s.bus := rfl
@[simp] theorem State.setHalted_timer (s : State) (v : Bool) : (s.setHalted v).timer = s.timer := rfl
@[simp] theorem State.setHalted_ppu (s : State) (v : Bool) : (s.setHalted v).ppu = s.ppu := rfl
@[simp] theorem State.setHalted_mem (s : State) (v : Bool) : (s.setHalted v).mem = s.mem := rfl
@[simp] theorem State.setHalted_cart (s : State) (v : Bool) : (s.setHalted v).cart = s.cart := rfl
@[simp] theorem State.setHalted_out (s : State) (v : Bool) : (s.setHalted v).out = s.out := rfl

@[simp] theorem State.setHl_a (s : State) (v : Addr) : (s.setHl v).cpu.a = s.cpu.a := rfl
@[simp] theorem State.setHl_f (s : State) (v : Addr) : (s.setHl v).cpu.f = s.cpu.f := rfl
@[simp] theorem State.setHl_b (s : State) (v : Addr) : (s.setHl v).cpu.b = s.cpu.b := rfl
@[simp] theorem State.setHl_c (s : State) (v : Addr) : (s.setHl v).cpu.c = s.cpu.c := rfl
@[simp] theorem State.setHl_d (s : State) (v : Addr) : (s.setHl v).cpu.d = s.cpu.d := rfl
@[simp] theorem State.setHl_e (s : State) (v : Addr) : (s.setHl v).cpu.e = s.cpu.e := rfl
@[simp] theorem State.setHl_h (s : State) (v : Addr) : (s.setHl v).cpu.h = hi v := rfl
@[simp] theorem State.setHl_l (s : State) (v : Addr) : (s.setHl v).cpu.l = lo v := rfl
@[simp] theorem State.setHl_sp (s : State) (v : Addr) : (s.setHl v).cpu.sp = s.cpu.sp := rfl
@[simp] theorem State.setHl_pc (s : State) (v : Addr) : (s.setHl v).cpu.pc = s.cpu.pc := rfl
@[simp] theorem State.setHl_ime (s : State) (v : Addr) : (s.setHl v).cpu.ime = s.cpu.ime := rfl
@[simp] theorem State.setHl_imeDelay (s : State) (v : Addr) : (s.setHl v).cpu.imeDelay = s.cpu.imeDelay := rfl
@[simp] theorem State.setHl_halted (s : State) (v : Addr) : (s.setHl v).cpu.halted = s.cpu.halted := rfl
@[simp] theorem State.setHl_cycles (s : State) (v : Addr) : (s.setHl v).cpu.cycles = s.cpu.cycles := rfl
@[simp] theorem State.setHl_bus (s : State) (v : Addr) : (s.setHl v).bus = s.bus := rfl
@[simp] theorem State.setHl_timer (s : State) (v : Addr) : (s.setHl v).timer = s.timer := rfl
@[simp] theorem State.setHl_ppu (s : State) (v : Addr) : (s.setHl v).ppu = s.ppu := rfl
@[simp] theorem State.setHl_mem (s : State) (v : Addr) : (s.setHl v).mem = s.mem := rfl
@[simp] theorem State.setHl_cart (s : State) (v : Addr) : (s.setHl v).cart = s.cart := rfl
@[simp] theorem State.setHl_out (s : State) (v : Addr) : (s.setHl v).out = s.out := rfl

@[simp] theorem State.setIf_cpu (s : State) (v : Byte) : (s.setIf v).cpu = s.cpu := rfl
@[simp] theorem State.setIf_bus (s : State) (v : Byte) : (s.setIf v).bus = { s.bus with ifReg := v } := rfl
@[simp] theorem State.setIf_timer (s : State) (v : Byte) : (s.setIf v).timer = s.timer := rfl
@[simp] theorem State.setIf_ppu (s : State) (v : Byte) : (s.setIf v).ppu = s.ppu := rfl
@[simp] theorem State.setIf_mem (s : State) (v : Byte) : (s.setIf v).mem = s.mem := rfl
@[simp] theorem State.setIf_cart (s : State) (v : Byte) : (s.setIf v).cart = s.cart := rfl
@[simp] theorem State.setIf_out (s : State) (v : Byte) : (s.setIf v).out = s.out := rfl

@[simp] theorem State.report_cpu (s : State) (op : Byte) : (s.report op).cpu = s.cpu := rfl
@[simp] theorem State.report_bus (s : State) (op : Byte) : (s.report op).bus = s.bus := rfl
@[simp] theorem State.report_timer (s : State) (op : Byte) : (s.report op).timer = s.timer := rfl
@[simp] theorem State.report_ppu (s : State) (op : Byte) : (s.report op).ppu = s.ppu := rfl
@[simp] theorem State.report_mem (s : State) (op : Byte) : (s.report op).mem = s.mem := rfl
@[simp] theorem State.report_cart (s : State) (op : Byte) : (s.report op).cart = s.cart := rfl
@[simp] theorem State.report_out (s : State) (op : Byte) : (s.report op).out = { s.out with reports := op :: s.out.reports } := rfl

@[simp] theorem State.storeByte_cpu (s : State) (k : Nat) (v : Byte) : (s.storeByte k v).cpu = s.cpu := rfl
@[simp] theorem State.storeByte_bus (s : State) (k : Nat) (v : Byte) : (s.storeByte k v).bus = s.bus := rfl
@[simp] theorem State.storeByte_timer (s : State) (k : Nat) (v : Byte) : (s.storeByte k v).timer = s.timer := rfl
@[simp] theorem State.storeByte_ppu (s : State) (k : Nat) (v : Byte) : (s.storeByte k v).ppu = s.ppu := rfl
@[simp] theorem State.storeByte_mem (s : State) (k : Nat) (v : Byte) : (s.storeByte k v).mem = s.mem.write k v := rfl
@[simp] theorem State.storeByte_cart (s : State) (k : Nat) (v : Byte) : (s.storeByte k v).cart = s.cart := rfl
@[simp] theorem State.storeByte_out (s : State) (k : Nat) (v : Byte) : (s.storeByte k v).out = s.out := rfl

@[simp] theorem State.setR8_f (s : State) (r : R8) (v : Byte) : (s.setR8 r v).cpu.f = s.cpu.f := by cases r <;> rfl
@[simp] theorem State.setR8_sp (s : State) (r : R8) (v : Byte) : (s.setR8 r v).cpu.sp = s.cpu.sp := by cases r <;> rfl
@[simp] theorem State.setR8_pc (s : State) (r : R8) (v : Byte) : (s.setR8 r v).cpu.pc = s.cpu.pc := by cases r <;> rfl
@[simp] theorem State.setR8_ime (s : State) (r : R8) (v : Byte) : (s.setR8 r v).cpu.ime = s.cpu.ime := by cases r <;> rfl
@[simp] theorem State.setR8_imeDelay (s : State) (r : R8) (v : Byte) : (s.setR8 r v).cpu.imeDelay = s.cpu.imeDelay := by cases r <;> rfl
@[simp] theorem State.setR8_halted (s : State) (r : R8) (v : Byte) : (s.setR8 r v).cpu.halted = s.cpu.halted := by cases r <;> rfl
@[simp] theorem State.setR8_cycles (s : State) (r : R8) (v : Byte) : (s.setR8 r v).cpu.cycles = s.cpu.cycles := by cases r <;> rfl
@[simp] theorem State.setR8_bus (s : State) (r : R8) (v : Byte) : (s.setR8 r v).bus = s.bus := by cases r <;> rfl
@[simp] theorem State.setR8_timer (s : State) (r : R8) (v : Byte) : (s.setR8 r v).timer = s.timer := by cases r <;> rfl
@[simp] theorem State.setR8_ppu (s : State) (r : R8) (v : Byte) : (s.setR8 r v).ppu = s.ppu := by cases r <;> rfl
@[simp] theorem State.setR8_mem (s : State) (r : R8) (v : Byte) : (s.setR8 r v).mem = s.mem := by cases r <;> rfl
@[simp] theorem State.setR8_cart (s : State) (r : R8) (v : Byte) : (s.setR8 r v).cart = s.cart := by cases r <;> rfl
@[simp] theorem State.setR8_out (s : State) (r : R8) (v : Byte) : (s.setR8 r v).out = s.out := by cases r <;> rfl

@[simp] theorem State.setR16_a (s : State) (r : R16) (v : Addr) : (s.setR16 r v).cpu.a = s.cpu.a := by cases r <;> rfl
@[simp] theorem State.setR16_f (s : State) (r : R16) (v : Addr) : (s.setR16 r v).cpu.f = s.cpu.f := by cases r <;> rfl
@[simp] theorem State.setR16_pc (s : State) (r : R16) (v : Addr) : (s.setR16 r v).cpu.pc = s.cpu.pc := by cases r <;> rfl
@[simp] theorem State.setR16_ime (s : State) (r : R16) (v : Addr) : (s.setR16 r v).cpu.ime = s.cpu.ime := by cases r <;> rfl
@[simp] theorem State.setR16_imeDelay (s : State) (r : R16) (v : Addr) : (s.setR16 r v).cpu.imeDelay = s.cpu.imeDelay := by cases r <;> rfl
@[simp] theorem State.setR16_halted (s : State) (r : R16) (v : Addr) : (s.setR16 r v).cpu.halted = s.cpu.halted := by cases r <;> rfl
@[simp] theorem State.setR16_cycles (s : State) (r : R16) (v : Addr) : (s.setR16 r v).cpu.cycles = s.cpu.cycles := by cases r <;> rfl
@[simp] theorem State.setR16_bus (s : State) (r : R16) (v : Addr) : (s.setR16 r v).bus = s.bus := by cases r <;> rfl
@[simp] theorem State.setR16_timer (s : State) (r : R16) (v : Addr) : (s.setR16 r v).timer = s.timer := by cases r <;> rfl
@[simp] theorem State.setR16_ppu (s : State) (r : R16) (v : Addr) : (s.setR16 r v).ppu = s.ppu := by cases r <;> rfl
@[simp] theorem State.setR16_mem (s : State) (r : R16) (v : Addr) : (s.setR16 r v).mem = s.mem := by cases r <;> rfl
@[simp] theorem State.setR16_cart (s : State) (r : R16) (v : Addr) : (s.setR16 r v).cart = s.cart := by cases r <;> rfl
@[simp] theorem State.setR16_out (s : State) (r : R16) (v : Addr) : (s.setR16 r v).out = s.out := by cases r <;> rfl

@[simp] theorem State.setR16Stk_sp (s : State) (r : R16Stk) (v : Addr) : (s.setR16Stk r v).cpu.sp = s.cpu.sp := by cases r <;> rfl
@[simp] theorem State.setR16Stk_pc (s : State) (r : R16Stk) (v : Addr) : (s.setR16Stk r v).cpu.pc = s.cpu.pc := by cases r <;> rfl
@[simp] theorem State.setR16Stk_ime (s : State) (r : R16Stk) (v : Addr) : (s.setR16Stk r v).cpu.ime = s.cpu.ime := by cases r <;> rfl
@[simp] theorem State.setR16Stk_imeDelay (s : State) (r : R16Stk) (v : Addr) : (s.setR16Stk r v).cpu.imeDelay = s.cpu.imeDelay := by cases r <;> rfl
@[simp] theorem State.setR16Stk_halted (s : State) (r : R16Stk) (v : Addr) : (s.setR16Stk r v).cpu.halted = s.cpu.halted := by cases r <;> rfl
@[simp] theorem State.setR16Stk_cycles (s : State) (r : R16Stk) (v : Addr) : (s.setR16Stk r v).cpu.cycles = s.cpu.cycles := by cases r <;> rfl
@[simp] theorem State.setR16Stk_bus (s : State) (r : R16Stk) (v : Addr) : (s.setR16Stk r v).bus = s.bus := by cases r <;> rfl
@[simp] theorem State.setR16Stk_timer (s : State) (r : R16Stk) (v : Addr) : (s.setR16Stk r v).timer = s.timer := by cases r <;> rfl
@[simp] theorem State.setR16Stk_ppu (s : State) (r : R16Stk) (v : Addr) : (s.setR16Stk r v).ppu = s.ppu := by cases r <;> rfl
@[simp] theorem State.setR16Stk_mem (s : State) (r : R16Stk) (v : Addr) : (s.setR16Stk r v).mem = s.mem := by cases r <;> rfl
@[simp] theorem State.setR16Stk_cart (s : State) (r : R16Stk) (v : Addr) : (s.setR16Stk r v).cart = s.cart := by cases r <;> rfl
@[simp] theorem State.setR16Stk_out (s : State) (r : R16Stk) (v : Addr) : (s.setR16Stk r v).out = s.out := by cases r <;> rfl

/-- Reading a register after writing one. -/
theorem State.getR8_setR8 (s : State) (d r : R8) (v : Byte) : (s.setR8 d v).getR8 r = if r = d then v else s.getR8 r := by
  cases d <;> cases r <;> rfl

end Sys2Proof.Machine
end

