-- ==== Sys2Proof/Laws/Runs.lean ====
section
/-! SUPPORT. What every operation of the CPU keeps: the devices, the form of F, the range of `ime_delay`, DIV's remainder, the
form of memory, and which kind of cartridge is attached. One lemma per update, then one per named operation. -/

namespace Sys2Proof.Machine

/-- What a CPU operation that takes `s` to `t` keeps. -/
structure Runs (s t : State) : Prop where
  devices : DevicesHeld s t
  flagsLow : s.cpu.f &&& 0x0F = 0 → t.cpu.f &&& 0x0F = 0
  delay : s.cpu.imeDelay ≤ 2 → t.cpu.imeDelay ≤ 2
  divider : s.timer.divRemainder < 64 → t.timer.divRemainder < 64
  canonical : s.mem.wf = true → t.mem.wf = true
  storage : (∀ cell ∈ s.mem, backed cell.1 = true) → ∀ cell ∈ t.mem, backed cell.1 = true
  flat : t.cart = .flatRom ↔ s.cart = .flatRom

namespace Runs

variable {s t u : State}

theorem refl (s : State) : Runs s s := ⟨.refl s, id, id, id, id, id, Iff.rfl⟩

theorem trans (h : Runs s t) (k : Runs t u) : Runs s u :=
  ⟨h.devices.trans k.devices, k.flagsLow ∘ h.flagsLow, k.delay ∘ h.delay, k.divider ∘ h.divider, k.canonical ∘ h.canonical,
    k.storage ∘ h.storage, k.flat.trans h.flat⟩

/-- A bus write. -/
theorem ofWrite (h : WriteKeeps s t) : Runs s t :=
  ⟨h.devices, by rw [h.cpu]; exact id, by rw [h.cpu]; exact id, h.divider, h.canonical, h.storage, h.flat⟩

/-- A change of CPU registers. -/
theorem ofCpu (s : State) (c : Cpu) (hf : s.cpu.f &&& 0x0F = 0 → c.f &&& 0x0F = 0) (hd : s.cpu.imeDelay ≤ 2 → c.imeDelay ≤ 2) :
    Runs s { s with cpu := c } :=
  ⟨by constructor <;> first | rfl | exact ⟨rfl, rfl⟩, hf, hd, id, id, id, Iff.rfl⟩

theorem busWrite (h : Runs s t) (a : Addr) (v : Byte) : Runs s (busWrite t a v) := h.trans (.ofWrite (busWrite_keeps t a v))

theorem took (h : Runs s t) (n : Nat) : Runs s (t.took n) := h.trans (ofCpu t _ id id)
theorem setPc (h : Runs s t) (v : Addr) : Runs s (t.setPc v) := h.trans (ofCpu t _ id id)
theorem setSp (h : Runs s t) (v : Addr) : Runs s (t.setSp v) := h.trans (ofCpu t _ id id)
theorem setA (h : Runs s t) (v : Byte) : Runs s (t.setA v) := h.trans (ofCpu t _ id id)
theorem setHl (h : Runs s t) (v : Addr) : Runs s (t.setHl v) := h.trans (ofCpu t _ id id)
theorem setIme (h : Runs s t) (v : Bool) : Runs s (t.setIme v) := h.trans (ofCpu t _ id id)
theorem setHalted (h : Runs s t) (v : Bool) : Runs s (t.setHalted v) := h.trans (ofCpu t _ id id)

theorem setImeDelay (h : Runs s t) (n : Nat) (hn : t.cpu.imeDelay ≤ 2 → n ≤ 2) : Runs s (t.setImeDelay n) :=
  h.trans (ofCpu t _ id hn)

theorem setF (h : Runs s t) (v : Byte) : Runs s (t.setF v) := h.trans (ofCpu t _ (fun _ => and_mask_low v) id)

theorem setFlags (h : Runs s t) (fl : Flags) : Runs s (t.setFlags fl) := h.setF fl.pack

theorem setR8 (h : Runs s t) (r : R8) (v : Byte) : Runs s (t.setR8 r v) := by
  refine h.trans ?_; cases r <;> exact ofCpu t _ id id

theorem setR16 (h : Runs s t) (r : R16) (v : Addr) : Runs s (t.setR16 r v) := by
  refine h.trans ?_; cases r <;> exact ofCpu t _ id id

theorem setR16Stk (h : Runs s t) (r : R16Stk) (v : Addr) : Runs s (t.setR16Stk r v) := by
  cases r
  · exact h.setR16 .BC v
  · exact h.setR16 .DE v
  · exact h.setR16 .HL v
  · exact (h.setA _).setF _

theorem setIf (h : Runs s t) (v : Byte) : Runs s (t.setIf v) :=
  h.trans ⟨by constructor <;> first | rfl | exact ⟨rfl, rfl⟩, id, id, id, id, id, Iff.rfl⟩

theorem report (h : Runs s t) (op : Byte) : Runs s (t.report op) :=
  h.trans ⟨by constructor <;> first | rfl | exact ⟨rfl, rfl⟩, id, id, id, id, id, Iff.rfl⟩

theorem putLoc (h : Runs s t) (l : Loc) (v : Byte) : Runs s (putLoc t l v) := by
  cases l
  · exact h.setR8 _ v
  · exact h.busWrite _ v

theorem push16 (h : Runs s t) (v : Addr) : Runs s (push16 v t) := ((((h.setSp _).busWrite _ _).setSp _).busWrite _ _)

theorem dropWord (h : Runs s t) : Runs s (dropWord t) := h.setSp _

theorem memWrite16 (h : Runs s t) (a v : Addr) : Runs s (memWrite16 t a v) := (h.busWrite _ _).busWrite _ _

theorem ite {c : Prop} {t u : State} [Decidable c] (h : Runs s t) (k : Runs s u) : Runs s (if c then t else u) := by
  split <;> assumption

end Runs

/-! ### The operations of a CPU step around an instruction -/

theorem takeInterrupt_runs (i : Interrupt) (s : State) : Runs s (takeInterrupt i s) :=
  ((((((Runs.refl s).push16 _).setPc _).setIf _).setIme _).setHalted _).took _

theorem returnFromInterrupt_runs (s : State) : Runs s (returnFromInterrupt s) := ((Runs.refl s).dropWord.setPc _).setIme _

theorem resolveImeDelay_runs (s : State) : Runs s (resolveImeDelay s) := by
  unfold resolveImeDelay
  dsimp only
  have h := (Runs.refl s).setImeDelay (s.cpu.imeDelay - 1) (fun h => Nat.le_trans (Nat.sub_le _ _) h)
  exact ((h.setIme _).ite h).ite (.refl s)

theorem haltedStep_runs (s : State) : Runs s (haltedStep s) := (((Runs.refl s).setHalted _).ite (.refl s)).took 1

end Sys2Proof.Machine
end

