-- ==== Sys2Proof/Laws/Exec.lean ====
section
/-! SUPPORT. What every instruction can do: it completes, keeps what `Runs` says, and takes one to six M-cycles. One lemma per
shared meaning; `exec_completes` says it of `exec`. -/

namespace Sys2Proof.Machine

/-- An instruction took `s` to `t`: what it keeps, and its M-cycles (60_exceptions.md R300). -/
structure Completes (s t : State) : Prop where
  runs : Runs s t
  positive : 1 ≤ t.cpu.cycles
  atMostSix : t.cpu.cycles ≤ 6

/-- The last thing every meaning does. -/
theorem Runs.complete {s t : State} (h : Runs s t) {n : Nat} (h1 : 1 ≤ n) (h6 : n ≤ 6) : Completes s (t.took n) :=
  ⟨h.took n, h1, h6⟩

theorem Completes.ite {s t u : State} {c : Prop} [Decidable c] (h : Completes s t) (k : Completes s u) :
    Completes s (if c then t else u) := by
  split <;> assumption

theorem ldRegReg_completes (d r : R8) (s : State) : Completes s (ldRegReg d r s) :=
  ((Runs.refl s).setR8 _ _).complete (by decide) (by decide)

theorem ldRegImm_completes (d : R8) (v : Byte) (s : State) : Completes s (ldRegImm d v s) :=
  ((Runs.refl s).setR8 _ _).complete (by decide) (by decide)

theorem ldRegMem_completes (d : R8) (s : State) : Completes s (ldRegMem d s) :=
  ((Runs.refl s).setR8 _ _).complete (by decide) (by decide)

theorem ldMemReg_completes (r : R8) (s : State) : Completes s (ldMemReg r s) :=
  ((Runs.refl s).busWrite _ _).complete (by decide) (by decide)

theorem ldMemImm_completes (v : Byte) (s : State) : Completes s (ldMemImm v s) :=
  ((Runs.refl s).busWrite _ _).complete (by decide) (by decide)

theorem loadA_completes (a : Addr) {n : Nat} (h1 : 1 ≤ n) (h6 : n ≤ 6) (s : State) : Completes s (loadA a n s) :=
  ((Runs.refl s).setA _).complete h1 h6

theorem storeA_completes (a : Addr) {n : Nat} (h1 : 1 ≤ n) (h6 : n ≤ 6) (s : State) : Completes s (storeA a n s) :=
  ((Runs.refl s).busWrite _ _).complete h1 h6

theorem storeAMoveHl_completes (d : Addr) (s : State) : Completes s (storeAMoveHl d s) :=
  (((Runs.refl s).busWrite _ _).setHl _).complete (by decide) (by decide)

theorem loadAMoveHl_completes (d : Addr) (s : State) : Completes s (loadAMoveHl d s) :=
  (((Runs.refl s).setA _).setHl _).complete (by decide) (by decide)

theorem ldPairImm_completes (r : R16) (v : Addr) (s : State) : Completes s (ldPairImm r v s) :=
  ((Runs.refl s).setR16 _ _).complete (by decide) (by decide)

theorem ldMemSp_completes (a : Addr) (s : State) : Completes s (ldMemSp a s) :=
  ((Runs.refl s).memWrite16 _ _).complete (by decide) (by decide)

theorem ldSpFromHl_completes (s : State) : Completes s (ldSpFromHl s) :=
  ((Runs.refl s).setSp _).complete (by decide) (by decide)

theorem ldHlSpOffset_completes (e : Byte) (s : State) : Completes s (ldHlSpOffset e s) :=
  (((Runs.refl s).setHl _).setFlags _).complete (by decide) (by decide)

theorem pushPair_completes (r : R16Stk) (s : State) : Completes s (pushPair r s) :=
  ((Runs.refl s).push16 _).complete (by decide) (by decide)

theorem popPair_completes (r : R16Stk) (s : State) : Completes s (popPair r s) :=
  ((Runs.refl s).dropWord.setR16Stk _ _).complete (by decide) (by decide)

theorem alu_completes (op : AluOp) (x : Source) (s : State) : Completes s (alu op x s) :=
  (((Runs.refl s).setA _).setFlags _).complete (by rcases x with (_ | _) | _ <;> simp [sourceCost, locCost]) (by rcases x with (_ | _) | _ <;> simp [sourceCost, locCost])

theorem incLoc_completes (l : Loc) (s : State) : Completes s (incLoc l s) :=
  (((Runs.refl s).putLoc _ _).setFlags _).complete (by cases l <;> simp [locCost]) (by cases l <;> simp [locCost])

theorem decLoc_completes (l : Loc) (s : State) : Completes s (decLoc l s) :=
  (((Runs.refl s).putLoc _ _).setFlags _).complete (by cases l <;> simp [locCost]) (by cases l <;> simp [locCost])

theorem addHlPair_completes (r : R16) (s : State) : Completes s (addHlPair r s) :=
  (((Runs.refl s).setHl _).setFlags _).complete (by decide) (by decide)

theorem incPair_completes (r : R16) (s : State) : Completes s (incPair r s) :=
  ((Runs.refl s).setR16 _ _).complete (by decide) (by decide)

theorem decPair_completes (r : R16) (s : State) : Completes s (decPair r s) :=
  ((Runs.refl s).setR16 _ _).complete (by decide) (by decide)

theorem addSpOffset_completes (e : Byte) (s : State) : Completes s (addSpOffset e s) :=
  (((Runs.refl s).setSp _).setFlags _).complete (by decide) (by decide)

theorem accRotate_completes (op : ShiftOp) (s : State) : Completes s (accRotate op s) :=
  (((Runs.refl s).setA _).setFlags _).complete (by decide) (by decide)

theorem decimalAdjust_completes (s : State) : Completes s (decimalAdjust s) :=
  (((Runs.refl s).setA _).setFlags _).complete (by decide) (by decide)

theorem complementA_completes (s : State) : Completes s (complementA s) :=
  (((Runs.refl s).setA _).setFlags _).complete (by decide) (by decide)

theorem setCarry_completes (s : State) : Completes s (setCarry s) :=
  ((Runs.refl s).setFlags _).complete (by decide) (by decide)

theorem complementCarry_completes (s : State) : Completes s (complementCarry s) :=
  ((Runs.refl s).setFlags _).complete (by decide) (by decide)

theorem jump_completes (a : Addr) (s : State) : Completes s (jump a s) :=
  ((Runs.refl s).setPc _).complete (by decide) (by decide)

theorem jumpIf_completes (cc : Cond) (a : Addr) (s : State) : Completes s (jumpIf cc a s) :=
  (((Runs.refl s).setPc _).complete (by decide) (by decide)).ite ((Runs.refl s).complete (by decide) (by decide))

theorem jumpHl_completes (s : State) : Completes s (jumpHl s) :=
  ((Runs.refl s).setPc _).complete (by decide) (by decide)

theorem jumpRel_completes (e : Byte) (s : State) : Completes s (jumpRel e s) :=
  ((Runs.refl s).setPc _).complete (by decide) (by decide)

theorem jumpRelIf_completes (cc : Cond) (e : Byte) (s : State) : Completes s (jumpRelIf cc e s) :=
  (((Runs.refl s).setPc _).complete (by decide) (by decide)).ite ((Runs.refl s).complete (by decide) (by decide))

theorem call_completes (a : Addr) (s : State) : Completes s (call a s) :=
  (((Runs.refl s).push16 _).setPc _).complete (by decide) (by decide)

theorem callIf_completes (cc : Cond) (a : Addr) (s : State) : Completes s (callIf cc a s) :=
  ((((Runs.refl s).push16 _).setPc _).complete (by decide) (by decide)).ite ((Runs.refl s).complete (by decide) (by decide))

theorem ret_completes (s : State) : Completes s (ret s) :=
  ((Runs.refl s).dropWord.setPc _).complete (by decide) (by decide)

theorem retIf_completes (cc : Cond) (s : State) : Completes s (retIf cc s) :=
  (((Runs.refl s).dropWord.setPc _).complete (by decide) (by decide)).ite ((Runs.refl s).complete (by decide) (by decide))

theorem retInterrupt_completes (s : State) : Completes s (retInterrupt s) :=
  (returnFromInterrupt_runs s).complete (by decide) (by decide)

theorem restart_completes (t : BitVec 3) (s : State) : Completes s (restart t s) :=
  (((Runs.refl s).push16 _).setPc _).complete (by decide) (by decide)

theorem shiftLoc_completes (op : ShiftOp) (l : Loc) (s : State) : Completes s (shiftLoc op l s) :=
  (((Runs.refl s).putLoc _ _).setFlags _).complete (by cases l <;> simp [locCost]) (by cases l <;> simp [locCost])

theorem testBit_completes (b : BitVec 3) (l : Loc) (s : State) : Completes s (testBit b l s) :=
  ((Runs.refl s).setFlags _).complete (by cases l <;> simp [locCost]) (by cases l <;> simp [locCost])

theorem clearBit_completes (b : BitVec 3) (l : Loc) (s : State) : Completes s (clearBit b l s) :=
  ((Runs.refl s).putLoc _ _).complete (by cases l <;> simp [locCost]) (by cases l <;> simp [locCost])

theorem raiseBit_completes (b : BitVec 3) (l : Loc) (s : State) : Completes s (raiseBit b l s) :=
  ((Runs.refl s).putLoc _ _).complete (by cases l <;> simp [locCost]) (by cases l <;> simp [locCost])

theorem idle_completes (s : State) : Completes s (idle s) :=
  (Runs.refl s).complete (by decide) (by decide)

theorem enterHalt_completes (s : State) : Completes s (enterHalt s) :=
  ((Runs.refl s).setHalted _).complete (by decide) (by decide)

theorem disableInterrupts_completes (s : State) : Completes s (disableInterrupts s) :=
  (((Runs.refl s).setIme _).setImeDelay _ (by simp)).complete (by decide) (by decide)

theorem armInterrupts_completes (s : State) : Completes s (armInterrupts s) :=
  ((Runs.refl s).setImeDelay _ (by simp)).complete (by decide) (by decide)

theorem unassigned_completes (op : Byte) (s : State) : Completes s (unassigned op s) :=
  ((Runs.refl s).report _).complete (by decide) (by decide)

theorem runSecondary_completes (cb : Byte) (s : State) : Completes s (runSecondary cb s) := by
  unfold runSecondary
  dsimp only
  split
  · exact shiftLoc_completes _ _ s
  · exact testBit_completes _ _ s
  · exact clearBit_completes _ _ s
  · exact raiseBit_completes _ _ s

/-- Every instruction completes from every state. -/
theorem exec_completes (i : Instr) (s : State) : ∃ t, exec i s = .next t ∧ Completes s t :=
  match i with
  | .nop => ⟨_, rfl, idle_completes s⟩
  | .ldBcD16 v => ⟨_, rfl, ldPairImm_completes .BC v s⟩
  | .ldMemBcA => ⟨_, rfl, storeA_completes s.bc (by decide) (by decide) s⟩
  | .incBc => ⟨_, rfl, incPair_completes .BC s⟩
  | .incB => ⟨_, rfl, incLoc_completes (.reg .B) s⟩
  | .decB => ⟨_, rfl, decLoc_completes (.reg .B) s⟩
  | .ldBD8 v => ⟨_, rfl, ldRegImm_completes .B v s⟩
  | .rlca => ⟨_, rfl, accRotate_completes .rlc s⟩
  | .ldMemA16Sp a => ⟨_, rfl, ldMemSp_completes a s⟩
  | .addHlBc => ⟨_, rfl, addHlPair_completes .BC s⟩
  | .ldAMemBc => ⟨_, rfl, loadA_completes s.bc (by decide) (by decide) s⟩
  | .decBc => ⟨_, rfl, decPair_completes .BC s⟩
  | .incC => ⟨_, rfl, incLoc_completes (.reg .C) s⟩
  | .decC => ⟨_, rfl, decLoc_completes (.reg .C) s⟩
  | .ldCD8 v => ⟨_, rfl, ldRegImm_completes .C v s⟩
  | .rrca => ⟨_, rfl, accRotate_completes .rrc s⟩
  | .stop pad => ⟨_, rfl, idle_completes s⟩
  | .ldDeD16 v => ⟨_, rfl, ldPairImm_completes .DE v s⟩
  | .ldMemDeA => ⟨_, rfl, storeA_completes s.de (by decide) (by decide) s⟩
  | .incDe => ⟨_, rfl, incPair_completes .DE s⟩
  | .incD => ⟨_, rfl, incLoc_completes (.reg .D) s⟩
  | .decD => ⟨_, rfl, decLoc_completes (.reg .D) s⟩
  | .ldDD8 v => ⟨_, rfl, ldRegImm_completes .D v s⟩
  | .rla => ⟨_, rfl, accRotate_completes .rl s⟩
  | .jrE8 e => ⟨_, rfl, jumpRel_completes e s⟩
  | .addHlDe => ⟨_, rfl, addHlPair_completes .DE s⟩
  | .ldAMemDe => ⟨_, rfl, loadA_completes s.de (by decide) (by decide) s⟩
  | .decDe => ⟨_, rfl, decPair_completes .DE s⟩
  | .incE => ⟨_, rfl, incLoc_completes (.reg .E) s⟩
  | .decE => ⟨_, rfl, decLoc_completes (.reg .E) s⟩
  | .ldED8 v => ⟨_, rfl, ldRegImm_completes .E v s⟩
  | .rra => ⟨_, rfl, accRotate_completes .rr s⟩
  | .jrNzE8 e => ⟨_, rfl, jumpRelIf_completes .NZ e s⟩
  | .ldHlD16 v => ⟨_, rfl, ldPairImm_completes .HL v s⟩
  | .ldMemHlIncA => ⟨_, rfl, storeAMoveHl_completes 1 s⟩
  | .incHl => ⟨_, rfl, incPair_completes .HL s⟩
  | .incH => ⟨_, rfl, incLoc_completes (.reg .H) s⟩
  | .decH => ⟨_, rfl, decLoc_completes (.reg .H) s⟩
  | .ldHD8 v => ⟨_, rfl, ldRegImm_completes .H v s⟩
  | .daa => ⟨_, rfl, decimalAdjust_completes s⟩
  | .jrZE8 e => ⟨_, rfl, jumpRelIf_completes .Z e s⟩
  | .addHlHl => ⟨_, rfl, addHlPair_completes .HL s⟩
  | .ldAMemHlInc => ⟨_, rfl, loadAMoveHl_completes 1 s⟩
  | .decHl => ⟨_, rfl, decPair_completes .HL s⟩
  | .incL => ⟨_, rfl, incLoc_completes (.reg .L) s⟩
  | .decL => ⟨_, rfl, decLoc_completes (.reg .L) s⟩
  | .ldLD8 v => ⟨_, rfl, ldRegImm_completes .L v s⟩
  | .cpl => ⟨_, rfl, complementA_completes s⟩
  | .jrNcE8 e => ⟨_, rfl, jumpRelIf_completes .NC e s⟩
  | .ldSpD16 v => ⟨_, rfl, ldPairImm_completes .SP v s⟩
  | .ldMemHlDecA => ⟨_, rfl, storeAMoveHl_completes (-1) s⟩
  | .incSp => ⟨_, rfl, incPair_completes .SP s⟩
  | .incMemHl => ⟨_, rfl, incLoc_completes .memHl s⟩
  | .decMemHl => ⟨_, rfl, decLoc_completes .memHl s⟩
  | .ldMemHlD8 v => ⟨_, rfl, ldMemImm_completes v s⟩
  | .scf => ⟨_, rfl, setCarry_completes s⟩
  | .jrCE8 e => ⟨_, rfl, jumpRelIf_completes .C e s⟩
  | .addHlSp => ⟨_, rfl, addHlPair_completes .SP s⟩
  | .ldAMemHlDec => ⟨_, rfl, loadAMoveHl_completes (-1) s⟩
  | .decSp => ⟨_, rfl, decPair_completes .SP s⟩
  | .incA => ⟨_, rfl, incLoc_completes (.reg .A) s⟩
  | .decA => ⟨_, rfl, decLoc_completes (.reg .A) s⟩
  | .ldAD8 v => ⟨_, rfl, ldRegImm_completes .A v s⟩
  | .ccf => ⟨_, rfl, complementCarry_completes s⟩
  | .ldBB => ⟨_, rfl, ldRegReg_completes .B .B s⟩
  | .ldBC => ⟨_, rfl, ldRegReg_completes .B .C s⟩
  | .ldBD => ⟨_, rfl, ldRegReg_completes .B .D s⟩
  | .ldBE => ⟨_, rfl, ldRegReg_completes .B .E s⟩
  | .ldBH => ⟨_, rfl, ldRegReg_completes .B .H s⟩
  | .ldBL => ⟨_, rfl, ldRegReg_completes .B .L s⟩
  | .ldBMemHl => ⟨_, rfl, ldRegMem_completes .B s⟩
  | .ldBA => ⟨_, rfl, ldRegReg_completes .B .A s⟩
  | .ldCB => ⟨_, rfl, ldRegReg_completes .C .B s⟩
  | .ldCC => ⟨_, rfl, ldRegReg_completes .C .C s⟩
  | .ldCD => ⟨_, rfl, ldRegReg_completes .C .D s⟩
  | .ldCE => ⟨_, rfl, ldRegReg_completes .C .E s⟩
  | .ldCH => ⟨_, rfl, ldRegReg_completes .C .H s⟩
  | .ldCL => ⟨_, rfl, ldRegReg_completes .C .L s⟩
  | .ldCMemHl => ⟨_, rfl, ldRegMem_completes .C s⟩
  | .ldCA => ⟨_, rfl, ldRegReg_completes .C .A s⟩
  | .ldDB => ⟨_, rfl, ldRegReg_completes .D .B s⟩
  | .ldDC => ⟨_, rfl, ldRegReg_completes .D .C s⟩
  | .ldDD => ⟨_, rfl, ldRegReg_completes .D .D s⟩
  | .ldDE => ⟨_, rfl, ldRegReg_completes .D .E s⟩
  | .ldDH => ⟨_, rfl, ldRegReg_completes .D .H s⟩
  | .ldDL => ⟨_, rfl, ldRegReg_completes .D .L s⟩
  | .ldDMemHl => ⟨_, rfl, ldRegMem_completes .D s⟩
  | .ldDA => ⟨_, rfl, ldRegReg_completes .D .A s⟩
  | .ldEB => ⟨_, rfl, ldRegReg_completes .E .B s⟩
  | .ldEC => ⟨_, rfl, ldRegReg_completes .E .C s⟩
  | .ldED => ⟨_, rfl, ldRegReg_completes .E .D s⟩
  | .ldEE => ⟨_, rfl, ldRegReg_completes .E .E s⟩
  | .ldEH => ⟨_, rfl, ldRegReg_completes .E .H s⟩
  | .ldEL => ⟨_, rfl, ldRegReg_completes .E .L s⟩
  | .ldEMemHl => ⟨_, rfl, ldRegMem_completes .E s⟩
  | .ldEA => ⟨_, rfl, ldRegReg_completes .E .A s⟩
  | .ldHB => ⟨_, rfl, ldRegReg_completes .H .B s⟩
  | .ldHC => ⟨_, rfl, ldRegReg_completes .H .C s⟩
  | .ldHD => ⟨_, rfl, ldRegReg_completes .H .D s⟩
  | .ldHE => ⟨_, rfl, ldRegReg_completes .H .E s⟩
  | .ldHH => ⟨_, rfl, ldRegReg_completes .H .H s⟩
  | .ldHL => ⟨_, rfl, ldRegReg_completes .H .L s⟩
  | .ldHMemHl => ⟨_, rfl, ldRegMem_completes .H s⟩
  | .ldHA => ⟨_, rfl, ldRegReg_completes .H .A s⟩
  | .ldLB => ⟨_, rfl, ldRegReg_completes .L .B s⟩
  | .ldLC => ⟨_, rfl, ldRegReg_completes .L .C s⟩
  | .ldLD => ⟨_, rfl, ldRegReg_completes .L .D s⟩
  | .ldLE => ⟨_, rfl, ldRegReg_completes .L .E s⟩
  | .ldLH => ⟨_, rfl, ldRegReg_completes .L .H s⟩
  | .ldLL => ⟨_, rfl, ldRegReg_completes .L .L s⟩
  | .ldLMemHl => ⟨_, rfl, ldRegMem_completes .L s⟩
  | .ldLA => ⟨_, rfl, ldRegReg_completes .L .A s⟩
  | .ldMemHlB => ⟨_, rfl, ldMemReg_completes .B s⟩
  | .ldMemHlC => ⟨_, rfl, ldMemReg_completes .C s⟩
  | .ldMemHlD => ⟨_, rfl, ldMemReg_completes .D s⟩
  | .ldMemHlE => ⟨_, rfl, ldMemReg_completes .E s⟩
  | .ldMemHlH => ⟨_, rfl, ldMemReg_completes .H s⟩
  | .ldMemHlL => ⟨_, rfl, ldMemReg_completes .L s⟩
  | .halt => ⟨_, rfl, enterHalt_completes s⟩
  | .ldMemHlA => ⟨_, rfl, ldMemReg_completes .A s⟩
  | .ldAB => ⟨_, rfl, ldRegReg_completes .A .B s⟩
  | .ldAC => ⟨_, rfl, ldRegReg_completes .A .C s⟩
  | .ldAD => ⟨_, rfl, ldRegReg_completes .A .D s⟩
  | .ldAE => ⟨_, rfl, ldRegReg_completes .A .E s⟩
  | .ldAH => ⟨_, rfl, ldRegReg_completes .A .H s⟩
  | .ldAL => ⟨_, rfl, ldRegReg_completes .A .L s⟩
  | .ldAMemHl => ⟨_, rfl, ldRegMem_completes .A s⟩
  | .ldAA => ⟨_, rfl, ldRegReg_completes .A .A s⟩
  | .addAB => ⟨_, rfl, alu_completes .add (.loc (.reg .B)) s⟩
  | .addAC => ⟨_, rfl, alu_completes .add (.loc (.reg .C)) s⟩
  | .addAD => ⟨_, rfl, alu_completes .add (.loc (.reg .D)) s⟩
  | .addAE => ⟨_, rfl, alu_completes .add (.loc (.reg .E)) s⟩
  | .addAH => ⟨_, rfl, alu_completes .add (.loc (.reg .H)) s⟩
  | .addAL => ⟨_, rfl, alu_completes .add (.loc (.reg .L)) s⟩
  | .addAMemHl => ⟨_, rfl, alu_completes .add (.loc .memHl) s⟩
  | .addAA => ⟨_, rfl, alu_completes .add (.loc (.reg .A)) s⟩
  | .adcAB => ⟨_, rfl, alu_completes .adc (.loc (.reg .B)) s⟩
  | .adcAC => ⟨_, rfl, alu_completes .adc (.loc (.reg .C)) s⟩
  | .adcAD => ⟨_, rfl, alu_completes .adc (.loc (.reg .D)) s⟩
  | .adcAE => ⟨_, rfl, alu_completes .adc (.loc (.reg .E)) s⟩
  | .adcAH => ⟨_, rfl, alu_completes .adc (.loc (.reg .H)) s⟩
  | .adcAL => ⟨_, rfl, alu_completes .adc (.loc (.reg .L)) s⟩
  | .adcAMemHl => ⟨_, rfl, alu_completes .adc (.loc .memHl) s⟩
  | .adcAA => ⟨_, rfl, alu_completes .adc (.loc (.reg .A)) s⟩
  | .subB => ⟨_, rfl, alu_completes .sub (.loc (.reg .B)) s⟩
  | .subC => ⟨_, rfl, alu_completes .sub (.loc (.reg .C)) s⟩
  | .subD => ⟨_, rfl, alu_completes .sub (.loc (.reg .D)) s⟩
  | .subE => ⟨_, rfl, alu_completes .sub (.loc (.reg .E)) s⟩
  | .subH => ⟨_, rfl, alu_completes .sub (.loc (.reg .H)) s⟩
  | .subL => ⟨_, rfl, alu_completes .sub (.loc (.reg .L)) s⟩
  | .subMemHl => ⟨_, rfl, alu_completes .sub (.loc .memHl) s⟩
  | .subA => ⟨_, rfl, alu_completes .sub (.loc (.reg .A)) s⟩
  | .sbcAB => ⟨_, rfl, alu_completes .sbc (.loc (.reg .B)) s⟩
  | .sbcAC => ⟨_, rfl, alu_completes .sbc (.loc (.reg .C)) s⟩
  | .sbcAD => ⟨_, rfl, alu_completes .sbc (.loc (.reg .D)) s⟩
  | .sbcAE => ⟨_, rfl, alu_completes .sbc (.loc (.reg .E)) s⟩
  | .sbcAH => ⟨_, rfl, alu_completes .sbc (.loc (.reg .H)) s⟩
  | .sbcAL => ⟨_, rfl, alu_completes .sbc (.loc (.reg .L)) s⟩
  | .sbcAMemHl => ⟨_, rfl, alu_completes .sbc (.loc .memHl) s⟩
  | .sbcAA => ⟨_, rfl, alu_completes .sbc (.loc (.reg .A)) s⟩
  | .andB => ⟨_, rfl, alu_completes .and (.loc (.reg .B)) s⟩
  | .andC => ⟨_, rfl, alu_completes .and (.loc (.reg .C)) s⟩
  | .andD => ⟨_, rfl, alu_completes .and (.loc (.reg .D)) s⟩
  | .andE => ⟨_, rfl, alu_completes .and (.loc (.reg .E)) s⟩
  | .andH => ⟨_, rfl, alu_completes .and (.loc (.reg .H)) s⟩
  | .andL => ⟨_, rfl, alu_completes .and (.loc (.reg .L)) s⟩
  | .andMemHl => ⟨_, rfl, alu_completes .and (.loc .memHl) s⟩
  | .andA => ⟨_, rfl, alu_completes .and (.loc (.reg .A)) s⟩
  | .xorB => ⟨_, rfl, alu_completes .xor (.loc (.reg .B)) s⟩
  | .xorC => ⟨_, rfl, alu_completes .xor (.loc (.reg .C)) s⟩
  | .xorD => ⟨_, rfl, alu_completes .xor (.loc (.reg .D)) s⟩
  | .xorE => ⟨_, rfl, alu_completes .xor (.loc (.reg .E)) s⟩
  | .xorH => ⟨_, rfl, alu_completes .xor (.loc (.reg .H)) s⟩
  | .xorL => ⟨_, rfl, alu_completes .xor (.loc (.reg .L)) s⟩
  | .xorMemHl => ⟨_, rfl, alu_completes .xor (.loc .memHl) s⟩
  | .xorA => ⟨_, rfl, alu_completes .xor (.loc (.reg .A)) s⟩
  | .orB => ⟨_, rfl, alu_completes .or (.loc (.reg .B)) s⟩
  | .orC => ⟨_, rfl, alu_completes .or (.loc (.reg .C)) s⟩
  | .orD => ⟨_, rfl, alu_completes .or (.loc (.reg .D)) s⟩
  | .orE => ⟨_, rfl, alu_completes .or (.loc (.reg .E)) s⟩
  | .orH => ⟨_, rfl, alu_completes .or (.loc (.reg .H)) s⟩
  | .orL => ⟨_, rfl, alu_completes .or (.loc (.reg .L)) s⟩
  | .orMemHl => ⟨_, rfl, alu_completes .or (.loc .memHl) s⟩
  | .orA => ⟨_, rfl, alu_completes .or (.loc (.reg .A)) s⟩
  | .cpB => ⟨_, rfl, alu_completes .cp (.loc (.reg .B)) s⟩
  | .cpC => ⟨_, rfl, alu_completes .cp (.loc (.reg .C)) s⟩
  | .cpD => ⟨_, rfl, alu_completes .cp (.loc (.reg .D)) s⟩
  | .cpE => ⟨_, rfl, alu_completes .cp (.loc (.reg .E)) s⟩
  | .cpH => ⟨_, rfl, alu_completes .cp (.loc (.reg .H)) s⟩
  | .cpL => ⟨_, rfl, alu_completes .cp (.loc (.reg .L)) s⟩
  | .cpMemHl => ⟨_, rfl, alu_completes .cp (.loc .memHl) s⟩
  | .cpA => ⟨_, rfl, alu_completes .cp (.loc (.reg .A)) s⟩
  | .retNz => ⟨_, rfl, retIf_completes .NZ s⟩
  | .popBc => ⟨_, rfl, popPair_completes .BC s⟩
  | .jpNzA16 a => ⟨_, rfl, jumpIf_completes .NZ a s⟩
  | .jpA16 a => ⟨_, rfl, jump_completes a s⟩
  | .callNzA16 a => ⟨_, rfl, callIf_completes .NZ a s⟩
  | .pushBc => ⟨_, rfl, pushPair_completes .BC s⟩
  | .addAD8 v => ⟨_, rfl, alu_completes .add (.imm v) s⟩
  | .rst00 => ⟨_, rfl, restart_completes 0 s⟩
  | .retZ => ⟨_, rfl, retIf_completes .Z s⟩
  | .ret => ⟨_, rfl, ret_completes s⟩
  | .jpZA16 a => ⟨_, rfl, jumpIf_completes .Z a s⟩
  | .prefixCb cb => ⟨_, rfl, runSecondary_completes cb s⟩
  | .callZA16 a => ⟨_, rfl, callIf_completes .Z a s⟩
  | .callA16 a => ⟨_, rfl, call_completes a s⟩
  | .adcAD8 v => ⟨_, rfl, alu_completes .adc (.imm v) s⟩
  | .rst08 => ⟨_, rfl, restart_completes 1 s⟩
  | .retNc => ⟨_, rfl, retIf_completes .NC s⟩
  | .popDe => ⟨_, rfl, popPair_completes .DE s⟩
  | .jpNcA16 a => ⟨_, rfl, jumpIf_completes .NC a s⟩
  | .illegalD3 => ⟨_, rfl, unassigned_completes 0xD3 s⟩
  | .callNcA16 a => ⟨_, rfl, callIf_completes .NC a s⟩
  | .pushDe => ⟨_, rfl, pushPair_completes .DE s⟩
  | .subD8 v => ⟨_, rfl, alu_completes .sub (.imm v) s⟩
  | .rst10 => ⟨_, rfl, restart_completes 2 s⟩
  | .retC => ⟨_, rfl, retIf_completes .C s⟩
  | .reti => ⟨_, rfl, retInterrupt_completes s⟩
  | .jpCA16 a => ⟨_, rfl, jumpIf_completes .C a s⟩
  | .illegalDB => ⟨_, rfl, unassigned_completes 0xDB s⟩
  | .callCA16 a => ⟨_, rfl, callIf_completes .C a s⟩
  | .illegalDD => ⟨_, rfl, unassigned_completes 0xDD s⟩
  | .sbcAD8 v => ⟨_, rfl, alu_completes .sbc (.imm v) s⟩
  | .rst18 => ⟨_, rfl, restart_completes 3 s⟩
  | .ldhMemA8A n => ⟨_, rfl, storeA_completes (highPage n) (by decide) (by decide) s⟩
  | .popHl => ⟨_, rfl, popPair_completes .HL s⟩
  | .ldMemCA => ⟨_, rfl, storeA_completes (highPage s.cpu.c) (by decide) (by decide) s⟩
  | .illegalE3 => ⟨_, rfl, unassigned_completes 0xE3 s⟩
  | .illegalE4 => ⟨_, rfl, unassigned_completes 0xE4 s⟩
  | .pushHl => ⟨_, rfl, pushPair_completes .HL s⟩
  | .andD8 v => ⟨_, rfl, alu_completes .and (.imm v) s⟩
  | .rst20 => ⟨_, rfl, restart_completes 4 s⟩
  | .addSpE8 e => ⟨_, rfl, addSpOffset_completes e s⟩
  | .jpHl => ⟨_, rfl, jumpHl_completes s⟩
  | .ldMemA16A a => ⟨_, rfl, storeA_completes a (by decide) (by decide) s⟩
  | .illegalEB => ⟨_, rfl, unassigned_completes 0xEB s⟩
  | .illegalEC => ⟨_, rfl, unassigned_completes 0xEC s⟩
  | .illegalED => ⟨_, rfl, unassigned_completes 0xED s⟩
  | .xorD8 v => ⟨_, rfl, alu_completes .xor (.imm v) s⟩
  | .rst28 => ⟨_, rfl, restart_completes 5 s⟩
  | .ldhAMemA8 n => ⟨_, rfl, loadA_completes (highPage n) (by decide) (by decide) s⟩
  | .popAf => ⟨_, rfl, popPair_completes .AF s⟩
  | .ldAMemC => ⟨_, rfl, loadA_completes (highPage s.cpu.c) (by decide) (by decide) s⟩
  | .di => ⟨_, rfl, disableInterrupts_completes s⟩
  | .illegalF4 => ⟨_, rfl, unassigned_completes 0xF4 s⟩
  | .pushAf => ⟨_, rfl, pushPair_completes .AF s⟩
  | .orD8 v => ⟨_, rfl, alu_completes .or (.imm v) s⟩
  | .rst30 => ⟨_, rfl, restart_completes 6 s⟩
  | .ldHlSpE8 e => ⟨_, rfl, ldHlSpOffset_completes e s⟩
  | .ldSpHl => ⟨_, rfl, ldSpFromHl_completes s⟩
  | .ldAMemA16 a => ⟨_, rfl, loadA_completes a (by decide) (by decide) s⟩
  | .ei => ⟨_, rfl, armInterrupts_completes s⟩
  | .illegalFC => ⟨_, rfl, unassigned_completes 0xFC s⟩
  | .illegalFD => ⟨_, rfl, unassigned_completes 0xFD s⟩
  | .cpD8 v => ⟨_, rfl, alu_completes .cp (.imm v) s⟩
  | .rst38 => ⟨_, rfl, restart_completes 7 s⟩
  | .rlcB => ⟨_, rfl, shiftLoc_completes .rlc (.reg .B) s⟩
  | .rlcC => ⟨_, rfl, shiftLoc_completes .rlc (.reg .C) s⟩
  | .rlcD => ⟨_, rfl, shiftLoc_completes .rlc (.reg .D) s⟩
  | .rlcE => ⟨_, rfl, shiftLoc_completes .rlc (.reg .E) s⟩
  | .rlcH => ⟨_, rfl, shiftLoc_completes .rlc (.reg .H) s⟩
  | .rlcL => ⟨_, rfl, shiftLoc_completes .rlc (.reg .L) s⟩
  | .rlcMemHl => ⟨_, rfl, shiftLoc_completes .rlc .memHl s⟩
  | .rlcA => ⟨_, rfl, shiftLoc_completes .rlc (.reg .A) s⟩
  | .rrcB => ⟨_, rfl, shiftLoc_completes .rrc (.reg .B) s⟩
  | .rrcC => ⟨_, rfl, shiftLoc_completes .rrc (.reg .C) s⟩
  | .rrcD => ⟨_, rfl, shiftLoc_completes .rrc (.reg .D) s⟩
  | .rrcE => ⟨_, rfl, shiftLoc_completes .rrc (.reg .E) s⟩
  | .rrcH => ⟨_, rfl, shiftLoc_completes .rrc (.reg .H) s⟩
  | .rrcL => ⟨_, rfl, shiftLoc_completes .rrc (.reg .L) s⟩
  | .rrcMemHl => ⟨_, rfl, shiftLoc_completes .rrc .memHl s⟩
  | .rrcA => ⟨_, rfl, shiftLoc_completes .rrc (.reg .A) s⟩
  | .rlB => ⟨_, rfl, shiftLoc_completes .rl (.reg .B) s⟩
  | .rlC => ⟨_, rfl, shiftLoc_completes .rl (.reg .C) s⟩
  | .rlD => ⟨_, rfl, shiftLoc_completes .rl (.reg .D) s⟩
  | .rlE => ⟨_, rfl, shiftLoc_completes .rl (.reg .E) s⟩
  | .rlH => ⟨_, rfl, shiftLoc_completes .rl (.reg .H) s⟩
  | .rlL => ⟨_, rfl, shiftLoc_completes .rl (.reg .L) s⟩
  | .rlMemHl => ⟨_, rfl, shiftLoc_completes .rl .memHl s⟩
  | .rlA => ⟨_, rfl, shiftLoc_completes .rl (.reg .A) s⟩
  | .rrB => ⟨_, rfl, shiftLoc_completes .rr (.reg .B) s⟩
  | .rrC => ⟨_, rfl, shiftLoc_completes .rr (.reg .C) s⟩
  | .rrD => ⟨_, rfl, shiftLoc_completes .rr (.reg .D) s⟩
  | .rrE => ⟨_, rfl, shiftLoc_completes .rr (.reg .E) s⟩
  | .rrH => ⟨_, rfl, shiftLoc_completes .rr (.reg .H) s⟩
  | .rrL => ⟨_, rfl, shiftLoc_completes .rr (.reg .L) s⟩
  | .rrMemHl => ⟨_, rfl, shiftLoc_completes .rr .memHl s⟩
  | .rrA => ⟨_, rfl, shiftLoc_completes .rr (.reg .A) s⟩
  | .slaB => ⟨_, rfl, shiftLoc_completes .sla (.reg .B) s⟩
  | .slaC => ⟨_, rfl, shiftLoc_completes .sla (.reg .C) s⟩
  | .slaD => ⟨_, rfl, shiftLoc_completes .sla (.reg .D) s⟩
  | .slaE => ⟨_, rfl, shiftLoc_completes .sla (.reg .E) s⟩
  | .slaH => ⟨_, rfl, shiftLoc_completes .sla (.reg .H) s⟩
  | .slaL => ⟨_, rfl, shiftLoc_completes .sla (.reg .L) s⟩
  | .slaMemHl => ⟨_, rfl, shiftLoc_completes .sla .memHl s⟩
  | .slaA => ⟨_, rfl, shiftLoc_completes .sla (.reg .A) s⟩
  | .sraB => ⟨_, rfl, shiftLoc_completes .sra (.reg .B) s⟩
  | .sraC => ⟨_, rfl, shiftLoc_completes .sra (.reg .C) s⟩
  | .sraD => ⟨_, rfl, shiftLoc_completes .sra (.reg .D) s⟩
  | .sraE => ⟨_, rfl, shiftLoc_completes .sra (.reg .E) s⟩
  | .sraH => ⟨_, rfl, shiftLoc_completes .sra (.reg .H) s⟩
  | .sraL => ⟨_, rfl, shiftLoc_completes .sra (.reg .L) s⟩
  | .sraMemHl => ⟨_, rfl, shiftLoc_completes .sra .memHl s⟩
  | .sraA => ⟨_, rfl, shiftLoc_completes .sra (.reg .A) s⟩
  | .swapB => ⟨_, rfl, shiftLoc_completes .swap (.reg .B) s⟩
  | .swapC => ⟨_, rfl, shiftLoc_completes .swap (.reg .C) s⟩
  | .swapD => ⟨_, rfl, shiftLoc_completes .swap (.reg .D) s⟩
  | .swapE => ⟨_, rfl, shiftLoc_completes .swap (.reg .E) s⟩
  | .swapH => ⟨_, rfl, shiftLoc_completes .swap (.reg .H) s⟩
  | .swapL => ⟨_, rfl, shiftLoc_completes .swap (.reg .L) s⟩
  | .swapMemHl => ⟨_, rfl, shiftLoc_completes .swap .memHl s⟩
  | .swapA => ⟨_, rfl, shiftLoc_completes .swap (.reg .A) s⟩
  | .srlB => ⟨_, rfl, shiftLoc_completes .srl (.reg .B) s⟩
  | .srlC => ⟨_, rfl, shiftLoc_completes .srl (.reg .C) s⟩
  | .srlD => ⟨_, rfl, shiftLoc_completes .srl (.reg .D) s⟩
  | .srlE => ⟨_, rfl, shiftLoc_completes .srl (.reg .E) s⟩
  | .srlH => ⟨_, rfl, shiftLoc_completes .srl (.reg .H) s⟩
  | .srlL => ⟨_, rfl, shiftLoc_completes .srl (.reg .L) s⟩
  | .srlMemHl => ⟨_, rfl, shiftLoc_completes .srl .memHl s⟩
  | .srlA => ⟨_, rfl, shiftLoc_completes .srl (.reg .A) s⟩
  | .bitB b => ⟨_, rfl, testBit_completes b (.reg .B) s⟩
  | .bitC b => ⟨_, rfl, testBit_completes b (.reg .C) s⟩
  | .bitD b => ⟨_, rfl, testBit_completes b (.reg .D) s⟩
  | .bitE b => ⟨_, rfl, testBit_completes b (.reg .E) s⟩
  | .bitH b => ⟨_, rfl, testBit_completes b (.reg .H) s⟩
  | .bitL b => ⟨_, rfl, testBit_completes b (.reg .L) s⟩
  | .bitMemHl b => ⟨_, rfl, testBit_completes b .memHl s⟩
  | .bitA b => ⟨_, rfl, testBit_completes b (.reg .A) s⟩
  | .resB b => ⟨_, rfl, clearBit_completes b (.reg .B) s⟩
  | .resC b => ⟨_, rfl, clearBit_completes b (.reg .C) s⟩
  | .resD b => ⟨_, rfl, clearBit_completes b (.reg .D) s⟩
  | .resE b => ⟨_, rfl, clearBit_completes b (.reg .E) s⟩
  | .resH b => ⟨_, rfl, clearBit_completes b (.reg .H) s⟩
  | .resL b => ⟨_, rfl, clearBit_completes b (.reg .L) s⟩
  | .resMemHl b => ⟨_, rfl, clearBit_completes b .memHl s⟩
  | .resA b => ⟨_, rfl, clearBit_completes b (.reg .A) s⟩
  | .setB b => ⟨_, rfl, raiseBit_completes b (.reg .B) s⟩
  | .setC b => ⟨_, rfl, raiseBit_completes b (.reg .C) s⟩
  | .setD b => ⟨_, rfl, raiseBit_completes b (.reg .D) s⟩
  | .setE b => ⟨_, rfl, raiseBit_completes b (.reg .E) s⟩
  | .setH b => ⟨_, rfl, raiseBit_completes b (.reg .H) s⟩
  | .setL b => ⟨_, rfl, raiseBit_completes b (.reg .L) s⟩
  | .setMemHl b => ⟨_, rfl, raiseBit_completes b .memHl s⟩
  | .setA b => ⟨_, rfl, raiseBit_completes b (.reg .A) s⟩

/-- What an instruction that answers a next state did. -/
theorem exec_next {i : Instr} {s t : State} (h : exec i s = .next t) : Completes s t := by
  obtain ⟨u, hu, hc⟩ := exec_completes i s
  rw [hu] at h; cases h; exact hc

end Sys2Proof.Machine
end

