-- ==== Sys2Proof/Laws/Io.lean ====
section
/-! SUPPORT. Reads of the bus after a change of the state behind it: storage, the I/O registers, the DMA copy. -/

namespace Sys2Proof.Machine

/-- Storing a byte leaves every other address reading as before. -/
theorem busRead_storeByte (s : State) (n : Nat) (v : Byte) (a : Addr) (h : a.toNat ≠ n) :
    busRead (s.storeByte n v) a = busRead s a := by
  have hr : (s.mem.write n v).read a.toNat = s.mem.read a.toNat := Memory.read_write_other _ _ h
  unfold busRead cartRead
  simp only [State.storeByte, hr]
  rfl

/-- The offset of an I/O register in its page (20_memory.md R59). -/
def ioOffset : IoReg → Nat
  | .sb => 0x01 | .sc => 0x02 | .div => 0x04 | .tima => 0x05 | .tma => 0x06 | .tac => 0x07 | .ifReg => 0x0F | .lcdc => 0x40
  | .stat => 0x41 | .scy => 0x42 | .scx => 0x43 | .ly => 0x44 | .lyc => 0x45 | .dma => 0x46 | .bgp => 0x47 | .obp0 => 0x48
  | .obp1 => 0x49 | .wy => 0x4A | .wx => 0x4B

theorem ioRegOf_offset {a : Addr} {r : IoReg} (h : ioRegOf a = some r) : a.toNat % 256 = ioOffset r := by
  rw [← lo_toNat]
  unfold ioRegOf at h
  split at h <;> first | (cases h; assumption) | cases h

theorem busRead_io (s : State) {a : Addr} (h : regionOf a = .io) :
    busRead s a = (match ioRegOf a with | some r => ioRead s r | none => Config.echoReadValue) := by
  unfold busRead; rewrite [h]; cases ioRegOf a <;> rfl

/-- Writing one I/O register leaves every other reading as before. -/
theorem ioRead_ioWrite_other (s : State) {r q : IoReg} (v : Byte) (h : q ≠ r) : ioRead (ioWrite s r v) q = ioRead s q := by
  cases r
  case dma =>
    obtain ⟨m, he, -, -⟩ := dmaCopy_mem v { s with ppu.dma := v }
    simp only [ioWrite, he]
    cases q <;> first | rfl | exact absurd rfl h
  all_goals (cases q <;> first | rfl | exact absurd rfl h)

/-- Outside the I/O page a read depends on IE, the mode, the storage and the cartridge. -/
theorem busRead_outside_io {s t : State} {a : Addr} (h : regionOf a ≠ .io) (hie : t.bus.ieReg = s.bus.ieReg)
    (hm : t.ppu.mode = s.ppu.mode) (hmem : t.mem.read a.toNat = s.mem.read a.toNat) (hc : t.cart = s.cart) :
    busRead t a = busRead s a := by
  unfold busRead cartRead
  rw [hie, hm, hmem, hc]
  split <;> first | rfl | (rename_i hh; exact absurd hh h)

/-- The DMA copy leaves what it does not copy to. -/
theorem dma_read_other (v : Byte) (l : List Nat) (s : State) (n : Nat) (h : ∀ i ∈ l, n ≠ 0xFE00 + i) :
    (l.foldl (fun t i => t.storeByte (oamAddr i) (busRead t (dmaSource v i))) s).mem.read n = s.mem.read n := by
  induction l generalizing s with
  | nil => rfl
  | cons i rest ih =>
    rw [List.foldl_cons, ih _ (fun j hj => h j (by simp [hj]))]
    exact Memory.read_write_other _ _ (h i (by simp))

end Sys2Proof.Machine
end

