-- ==== Sys2Proof/Laws/PerInstr.lean ====
section
/-! SUPPORT. The family `EncodingLength`: every instruction's encoding has the length its first byte says
(30_encoding.md R98). One lemma for each constructor. -/

namespace Sys2Proof.Laws.EncodingLength

/-- The encoding of `i` is as long as its first byte says. -/
def Statement (i : Instr) : Prop := ∃ op rest, encode i = op :: rest ∧ (encode i).length = lengthOfFirst op

theorem ldBcD16 (v : Addr) : Statement (.ldBcD16 v) := ⟨_, _, rfl, rfl⟩
theorem ldBD8 (v : Byte) : Statement (.ldBD8 v) := ⟨_, _, rfl, rfl⟩
theorem ldMemA16Sp (a : Addr) : Statement (.ldMemA16Sp a) := ⟨_, _, rfl, rfl⟩
theorem ldCD8 (v : Byte) : Statement (.ldCD8 v) := ⟨_, _, rfl, rfl⟩
theorem stop (pad : Byte) : Statement (.stop pad) := ⟨_, _, rfl, rfl⟩
theorem ldDeD16 (v : Addr) : Statement (.ldDeD16 v) := ⟨_, _, rfl, rfl⟩
theorem ldDD8 (v : Byte) : Statement (.ldDD8 v) := ⟨_, _, rfl, rfl⟩
theorem jrE8 (e : Byte) : Statement (.jrE8 e) := ⟨_, _, rfl, rfl⟩
theorem ldED8 (v : Byte) : Statement (.ldED8 v) := ⟨_, _, rfl, rfl⟩
theorem jrNzE8 (e : Byte) : Statement (.jrNzE8 e) := ⟨_, _, rfl, rfl⟩
theorem ldHlD16 (v : Addr) : Statement (.ldHlD16 v) := ⟨_, _, rfl, rfl⟩
theorem ldHD8 (v : Byte) : Statement (.ldHD8 v) := ⟨_, _, rfl, rfl⟩
theorem jrZE8 (e : Byte) : Statement (.jrZE8 e) := ⟨_, _, rfl, rfl⟩
theorem ldLD8 (v : Byte) : Statement (.ldLD8 v) := ⟨_, _, rfl, rfl⟩
theorem jrNcE8 (e : Byte) : Statement (.jrNcE8 e) := ⟨_, _, rfl, rfl⟩
theorem ldSpD16 (v : Addr) : Statement (.ldSpD16 v) := ⟨_, _, rfl, rfl⟩
theorem ldMemHlD8 (v : Byte) : Statement (.ldMemHlD8 v) := ⟨_, _, rfl, rfl⟩
theorem jrCE8 (e : Byte) : Statement (.jrCE8 e) := ⟨_, _, rfl, rfl⟩
theorem ldAD8 (v : Byte) : Statement (.ldAD8 v) := ⟨_, _, rfl, rfl⟩
theorem jpNzA16 (a : Addr) : Statement (.jpNzA16 a) := ⟨_, _, rfl, rfl⟩
theorem jpA16 (a : Addr) : Statement (.jpA16 a) := ⟨_, _, rfl, rfl⟩
theorem callNzA16 (a : Addr) : Statement (.callNzA16 a) := ⟨_, _, rfl, rfl⟩
theorem addAD8 (v : Byte) : Statement (.addAD8 v) := ⟨_, _, rfl, rfl⟩
theorem jpZA16 (a : Addr) : Statement (.jpZA16 a) := ⟨_, _, rfl, rfl⟩
theorem prefixCb (cb : Byte) : Statement (.prefixCb cb) := ⟨_, _, rfl, rfl⟩
theorem callZA16 (a : Addr) : Statement (.callZA16 a) := ⟨_, _, rfl, rfl⟩
theorem callA16 (a : Addr) : Statement (.callA16 a) := ⟨_, _, rfl, rfl⟩
theorem adcAD8 (v : Byte) : Statement (.adcAD8 v) := ⟨_, _, rfl, rfl⟩
theorem jpNcA16 (a : Addr) : Statement (.jpNcA16 a) := ⟨_, _, rfl, rfl⟩
theorem callNcA16 (a : Addr) : Statement (.callNcA16 a) := ⟨_, _, rfl, rfl⟩
theorem subD8 (v : Byte) : Statement (.subD8 v) := ⟨_, _, rfl, rfl⟩
theorem jpCA16 (a : Addr) : Statement (.jpCA16 a) := ⟨_, _, rfl, rfl⟩
theorem callCA16 (a : Addr) : Statement (.callCA16 a) := ⟨_, _, rfl, rfl⟩
theorem sbcAD8 (v : Byte) : Statement (.sbcAD8 v) := ⟨_, _, rfl, rfl⟩
theorem ldhMemA8A (n : Byte) : Statement (.ldhMemA8A n) := ⟨_, _, rfl, rfl⟩
theorem andD8 (v : Byte) : Statement (.andD8 v) := ⟨_, _, rfl, rfl⟩
theorem addSpE8 (e : Byte) : Statement (.addSpE8 e) := ⟨_, _, rfl, rfl⟩
theorem ldMemA16A (a : Addr) : Statement (.ldMemA16A a) := ⟨_, _, rfl, rfl⟩
theorem xorD8 (v : Byte) : Statement (.xorD8 v) := ⟨_, _, rfl, rfl⟩
theorem ldhAMemA8 (n : Byte) : Statement (.ldhAMemA8 n) := ⟨_, _, rfl, rfl⟩
theorem orD8 (v : Byte) : Statement (.orD8 v) := ⟨_, _, rfl, rfl⟩
theorem ldHlSpE8 (e : Byte) : Statement (.ldHlSpE8 e) := ⟨_, _, rfl, rfl⟩
theorem ldAMemA16 (a : Addr) : Statement (.ldAMemA16 a) := ⟨_, _, rfl, rfl⟩
theorem cpD8 (v : Byte) : Statement (.cpD8 v) := ⟨_, _, rfl, rfl⟩
theorem bitB (b : BitVec 3) : Statement (.bitB b) := ⟨_, _, rfl, rfl⟩
theorem bitC (b : BitVec 3) : Statement (.bitC b) := ⟨_, _, rfl, rfl⟩
theorem bitD (b : BitVec 3) : Statement (.bitD b) := ⟨_, _, rfl, rfl⟩
theorem bitE (b : BitVec 3) : Statement (.bitE b) := ⟨_, _, rfl, rfl⟩
theorem bitH (b : BitVec 3) : Statement (.bitH b) := ⟨_, _, rfl, rfl⟩
theorem bitL (b : BitVec 3) : Statement (.bitL b) := ⟨_, _, rfl, rfl⟩
theorem bitMemHl (b : BitVec 3) : Statement (.bitMemHl b) := ⟨_, _, rfl, rfl⟩
theorem bitA (b : BitVec 3) : Statement (.bitA b) := ⟨_, _, rfl, rfl⟩
theorem resB (b : BitVec 3) : Statement (.resB b) := ⟨_, _, rfl, rfl⟩
theorem resC (b : BitVec 3) : Statement (.resC b) := ⟨_, _, rfl, rfl⟩
theorem resD (b : BitVec 3) : Statement (.resD b) := ⟨_, _, rfl, rfl⟩
theorem resE (b : BitVec 3) : Statement (.resE b) := ⟨_, _, rfl, rfl⟩
theorem resH (b : BitVec 3) : Statement (.resH b) := ⟨_, _, rfl, rfl⟩
theorem resL (b : BitVec 3) : Statement (.resL b) := ⟨_, _, rfl, rfl⟩
theorem resMemHl (b : BitVec 3) : Statement (.resMemHl b) := ⟨_, _, rfl, rfl⟩
theorem resA (b : BitVec 3) : Statement (.resA b) := ⟨_, _, rfl, rfl⟩
theorem setB (b : BitVec 3) : Statement (.setB b) := ⟨_, _, rfl, rfl⟩
theorem setC (b : BitVec 3) : Statement (.setC b) := ⟨_, _, rfl, rfl⟩
theorem setD (b : BitVec 3) : Statement (.setD b) := ⟨_, _, rfl, rfl⟩
theorem setE (b : BitVec 3) : Statement (.setE b) := ⟨_, _, rfl, rfl⟩
theorem setH (b : BitVec 3) : Statement (.setH b) := ⟨_, _, rfl, rfl⟩
theorem setL (b : BitVec 3) : Statement (.setL b) := ⟨_, _, rfl, rfl⟩
theorem setMemHl (b : BitVec 3) : Statement (.setMemHl b) := ⟨_, _, rfl, rfl⟩
theorem setA (b : BitVec 3) : Statement (.setA b) := ⟨_, _, rfl, rfl⟩
theorem nop : Statement .nop := ⟨_, _, rfl, rfl⟩
theorem ldMemBcA : Statement .ldMemBcA := ⟨_, _, rfl, rfl⟩
theorem incBc : Statement .incBc := ⟨_, _, rfl, rfl⟩
theorem incB : Statement .incB := ⟨_, _, rfl, rfl⟩
theorem decB : Statement .decB := ⟨_, _, rfl, rfl⟩
theorem rlca : Statement .rlca := ⟨_, _, rfl, rfl⟩
theorem addHlBc : Statement .addHlBc := ⟨_, _, rfl, rfl⟩
theorem ldAMemBc : Statement .ldAMemBc := ⟨_, _, rfl, rfl⟩
theorem decBc : Statement .decBc := ⟨_, _, rfl, rfl⟩
theorem incC : Statement .incC := ⟨_, _, rfl, rfl⟩
theorem decC : Statement .decC := ⟨_, _, rfl, rfl⟩
theorem rrca : Statement .rrca := ⟨_, _, rfl, rfl⟩
theorem ldMemDeA : Statement .ldMemDeA := ⟨_, _, rfl, rfl⟩
theorem incDe : Statement .incDe := ⟨_, _, rfl, rfl⟩
theorem incD : Statement .incD := ⟨_, _, rfl, rfl⟩
theorem decD : Statement .decD := ⟨_, _, rfl, rfl⟩
theorem rla : Statement .rla := ⟨_, _, rfl, rfl⟩
theorem addHlDe : Statement .addHlDe := ⟨_, _, rfl, rfl⟩
theorem ldAMemDe : Statement .ldAMemDe := ⟨_, _, rfl, rfl⟩
theorem decDe : Statement .decDe := ⟨_, _, rfl, rfl⟩
theorem incE : Statement .incE := ⟨_, _, rfl, rfl⟩
theorem decE : Statement .decE := ⟨_, _, rfl, rfl⟩
theorem rra : Statement .rra := ⟨_, _, rfl, rfl⟩
theorem ldMemHlIncA : Statement .ldMemHlIncA := ⟨_, _, rfl, rfl⟩
theorem incHl : Statement .incHl := ⟨_, _, rfl, rfl⟩
theorem incH : Statement .incH := ⟨_, _, rfl, rfl⟩
theorem decH : Statement .decH := ⟨_, _, rfl, rfl⟩
theorem daa : Statement .daa := ⟨_, _, rfl, rfl⟩
theorem addHlHl : Statement .addHlHl := ⟨_, _, rfl, rfl⟩
theorem ldAMemHlInc : Statement .ldAMemHlInc := ⟨_, _, rfl, rfl⟩
theorem decHl : Statement .decHl := ⟨_, _, rfl, rfl⟩
theorem incL : Statement .incL := ⟨_, _, rfl, rfl⟩
theorem decL : Statement .decL := ⟨_, _, rfl, rfl⟩
theorem cpl : Statement .cpl := ⟨_, _, rfl, rfl⟩
theorem ldMemHlDecA : Statement .ldMemHlDecA := ⟨_, _, rfl, rfl⟩
theorem incSp : Statement .incSp := ⟨_, _, rfl, rfl⟩
theorem incMemHl : Statement .incMemHl := ⟨_, _, rfl, rfl⟩
theorem decMemHl : Statement .decMemHl := ⟨_, _, rfl, rfl⟩
theorem scf : Statement .scf := ⟨_, _, rfl, rfl⟩
theorem addHlSp : Statement .addHlSp := ⟨_, _, rfl, rfl⟩
theorem ldAMemHlDec : Statement .ldAMemHlDec := ⟨_, _, rfl, rfl⟩
theorem decSp : Statement .decSp := ⟨_, _, rfl, rfl⟩
theorem incA : Statement .incA := ⟨_, _, rfl, rfl⟩
theorem decA : Statement .decA := ⟨_, _, rfl, rfl⟩
theorem ccf : Statement .ccf := ⟨_, _, rfl, rfl⟩
theorem ldBB : Statement .ldBB := ⟨_, _, rfl, rfl⟩
theorem ldBC : Statement .ldBC := ⟨_, _, rfl, rfl⟩
theorem ldBD : Statement .ldBD := ⟨_, _, rfl, rfl⟩
theorem ldBE : Statement .ldBE := ⟨_, _, rfl, rfl⟩
theorem ldBH : Statement .ldBH := ⟨_, _, rfl, rfl⟩
theorem ldBL : Statement .ldBL := ⟨_, _, rfl, rfl⟩
theorem ldBMemHl : Statement .ldBMemHl := ⟨_, _, rfl, rfl⟩
theorem ldBA : Statement .ldBA := ⟨_, _, rfl, rfl⟩
theorem ldCB : Statement .ldCB := ⟨_, _, rfl, rfl⟩
theorem ldCC : Statement .ldCC := ⟨_, _, rfl, rfl⟩
theorem ldCD : Statement .ldCD := ⟨_, _, rfl, rfl⟩
theorem ldCE : Statement .ldCE := ⟨_, _, rfl, rfl⟩
theorem ldCH : Statement .ldCH := ⟨_, _, rfl, rfl⟩
theorem ldCL : Statement .ldCL := ⟨_, _, rfl, rfl⟩
theorem ldCMemHl : Statement .ldCMemHl := ⟨_, _, rfl, rfl⟩
theorem ldCA : Statement .ldCA := ⟨_, _, rfl, rfl⟩
theorem ldDB : Statement .ldDB := ⟨_, _, rfl, rfl⟩
theorem ldDC : Statement .ldDC := ⟨_, _, rfl, rfl⟩
theorem ldDD : Statement .ldDD := ⟨_, _, rfl, rfl⟩
theorem ldDE : Statement .ldDE := ⟨_, _, rfl, rfl⟩
theorem ldDH : Statement .ldDH := ⟨_, _, rfl, rfl⟩
theorem ldDL : Statement .ldDL := ⟨_, _, rfl, rfl⟩
theorem ldDMemHl : Statement .ldDMemHl := ⟨_, _, rfl, rfl⟩
theorem ldDA : Statement .ldDA := ⟨_, _, rfl, rfl⟩
theorem ldEB : Statement .ldEB := ⟨_, _, rfl, rfl⟩
theorem ldEC : Statement .ldEC := ⟨_, _, rfl, rfl⟩
theorem ldED : Statement .ldED := ⟨_, _, rfl, rfl⟩
theorem ldEE : Statement .ldEE := ⟨_, _, rfl, rfl⟩
theorem ldEH : Statement .ldEH := ⟨_, _, rfl, rfl⟩
theorem ldEL : Statement .ldEL := ⟨_, _, rfl, rfl⟩
theorem ldEMemHl : Statement .ldEMemHl := ⟨_, _, rfl, rfl⟩
theorem ldEA : Statement .ldEA := ⟨_, _, rfl, rfl⟩
theorem ldHB : Statement .ldHB := ⟨_, _, rfl, rfl⟩
theorem ldHC : Statement .ldHC := ⟨_, _, rfl, rfl⟩
theorem ldHD : Statement .ldHD := ⟨_, _, rfl, rfl⟩
theorem ldHE : Statement .ldHE := ⟨_, _, rfl, rfl⟩
theorem ldHH : Statement .ldHH := ⟨_, _, rfl, rfl⟩
theorem ldHL : Statement .ldHL := ⟨_, _, rfl, rfl⟩
theorem ldHMemHl : Statement .ldHMemHl := ⟨_, _, rfl, rfl⟩
theorem ldHA : Statement .ldHA := ⟨_, _, rfl, rfl⟩
theorem ldLB : Statement .ldLB := ⟨_, _, rfl, rfl⟩
theorem ldLC : Statement .ldLC := ⟨_, _, rfl, rfl⟩
theorem ldLD : Statement .ldLD := ⟨_, _, rfl, rfl⟩
theorem ldLE : Statement .ldLE := ⟨_, _, rfl, rfl⟩
theorem ldLH : Statement .ldLH := ⟨_, _, rfl, rfl⟩
theorem ldLL : Statement .ldLL := ⟨_, _, rfl, rfl⟩
theorem ldLMemHl : Statement .ldLMemHl := ⟨_, _, rfl, rfl⟩
theorem ldLA : Statement .ldLA := ⟨_, _, rfl, rfl⟩
theorem ldMemHlB : Statement .ldMemHlB := ⟨_, _, rfl, rfl⟩
theorem ldMemHlC : Statement .ldMemHlC := ⟨_, _, rfl, rfl⟩
theorem ldMemHlD : Statement .ldMemHlD := ⟨_, _, rfl, rfl⟩
theorem ldMemHlE : Statement .ldMemHlE := ⟨_, _, rfl, rfl⟩
theorem ldMemHlH : Statement .ldMemHlH := ⟨_, _, rfl, rfl⟩
theorem ldMemHlL : Statement .ldMemHlL := ⟨_, _, rfl, rfl⟩
theorem halt : Statement .halt := ⟨_, _, rfl, rfl⟩
theorem ldMemHlA : Statement .ldMemHlA := ⟨_, _, rfl, rfl⟩
theorem ldAB : Statement .ldAB := ⟨_, _, rfl, rfl⟩
theorem ldAC : Statement .ldAC := ⟨_, _, rfl, rfl⟩
theorem ldAD : Statement .ldAD := ⟨_, _, rfl, rfl⟩
theorem ldAE : Statement .ldAE := ⟨_, _, rfl, rfl⟩
theorem ldAH : Statement .ldAH := ⟨_, _, rfl, rfl⟩
theorem ldAL : Statement .ldAL := ⟨_, _, rfl, rfl⟩
theorem ldAMemHl : Statement .ldAMemHl := ⟨_, _, rfl, rfl⟩
theorem ldAA : Statement .ldAA := ⟨_, _, rfl, rfl⟩
theorem addAB : Statement .addAB := ⟨_, _, rfl, rfl⟩
theorem addAC : Statement .addAC := ⟨_, _, rfl, rfl⟩
theorem addAD : Statement .addAD := ⟨_, _, rfl, rfl⟩
theorem addAE : Statement .addAE := ⟨_, _, rfl, rfl⟩
theorem addAH : Statement .addAH := ⟨_, _, rfl, rfl⟩
theorem addAL : Statement .addAL := ⟨_, _, rfl, rfl⟩
theorem addAMemHl : Statement .addAMemHl := ⟨_, _, rfl, rfl⟩
theorem addAA : Statement .addAA := ⟨_, _, rfl, rfl⟩
theorem adcAB : Statement .adcAB := ⟨_, _, rfl, rfl⟩
theorem adcAC : Statement .adcAC := ⟨_, _, rfl, rfl⟩
theorem adcAD : Statement .adcAD := ⟨_, _, rfl, rfl⟩
theorem adcAE : Statement .adcAE := ⟨_, _, rfl, rfl⟩
theorem adcAH : Statement .adcAH := ⟨_, _, rfl, rfl⟩
theorem adcAL : Statement .adcAL := ⟨_, _, rfl, rfl⟩
theorem adcAMemHl : Statement .adcAMemHl := ⟨_, _, rfl, rfl⟩
theorem adcAA : Statement .adcAA := ⟨_, _, rfl, rfl⟩
theorem subB : Statement .subB := ⟨_, _, rfl, rfl⟩
theorem subC : Statement .subC := ⟨_, _, rfl, rfl⟩
theorem subD : Statement .subD := ⟨_, _, rfl, rfl⟩
theorem subE : Statement .subE := ⟨_, _, rfl, rfl⟩
theorem subH : Statement .subH := ⟨_, _, rfl, rfl⟩
theorem subL : Statement .subL := ⟨_, _, rfl, rfl⟩
theorem subMemHl : Statement .subMemHl := ⟨_, _, rfl, rfl⟩
theorem subA : Statement .subA := ⟨_, _, rfl, rfl⟩
theorem sbcAB : Statement .sbcAB := ⟨_, _, rfl, rfl⟩
theorem sbcAC : Statement .sbcAC := ⟨_, _, rfl, rfl⟩
theorem sbcAD : Statement .sbcAD := ⟨_, _, rfl, rfl⟩
theorem sbcAE : Statement .sbcAE := ⟨_, _, rfl, rfl⟩
theorem sbcAH : Statement .sbcAH := ⟨_, _, rfl, rfl⟩
theorem sbcAL : Statement .sbcAL := ⟨_, _, rfl, rfl⟩
theorem sbcAMemHl : Statement .sbcAMemHl := ⟨_, _, rfl, rfl⟩
theorem sbcAA : Statement .sbcAA := ⟨_, _, rfl, rfl⟩
theorem andB : Statement .andB := ⟨_, _, rfl, rfl⟩
theorem andC : Statement .andC := ⟨_, _, rfl, rfl⟩
theorem andD : Statement .andD := ⟨_, _, rfl, rfl⟩
theorem andE : Statement .andE := ⟨_, _, rfl, rfl⟩
theorem andH : Statement .andH := ⟨_, _, rfl, rfl⟩
theorem andL : Statement .andL := ⟨_, _, rfl, rfl⟩
theorem andMemHl : Statement .andMemHl := ⟨_, _, rfl, rfl⟩
theorem andA : Statement .andA := ⟨_, _, rfl, rfl⟩
theorem xorB : Statement .xorB := ⟨_, _, rfl, rfl⟩
theorem xorC : Statement .xorC := ⟨_, _, rfl, rfl⟩
theorem xorD : Statement .xorD := ⟨_, _, rfl, rfl⟩
theorem xorE : Statement .xorE := ⟨_, _, rfl, rfl⟩
theorem xorH : Statement .xorH := ⟨_, _, rfl, rfl⟩
theorem xorL : Statement .xorL := ⟨_, _, rfl, rfl⟩
theorem xorMemHl : Statement .xorMemHl := ⟨_, _, rfl, rfl⟩
theorem xorA : Statement .xorA := ⟨_, _, rfl, rfl⟩
theorem orB : Statement .orB := ⟨_, _, rfl, rfl⟩
theorem orC : Statement .orC := ⟨_, _, rfl, rfl⟩
theorem orD : Statement .orD := ⟨_, _, rfl, rfl⟩
theorem orE : Statement .orE := ⟨_, _, rfl, rfl⟩
theorem orH : Statement .orH := ⟨_, _, rfl, rfl⟩
theorem orL : Statement .orL := ⟨_, _, rfl, rfl⟩
theorem orMemHl : Statement .orMemHl := ⟨_, _, rfl, rfl⟩
theorem orA : Statement .orA := ⟨_, _, rfl, rfl⟩
theorem cpB : Statement .cpB := ⟨_, _, rfl, rfl⟩
theorem cpC : Statement .cpC := ⟨_, _, rfl, rfl⟩
theorem cpD : Statement .cpD := ⟨_, _, rfl, rfl⟩
theorem cpE : Statement .cpE := ⟨_, _, rfl, rfl⟩
theorem cpH : Statement .cpH := ⟨_, _, rfl, rfl⟩
theorem cpL : Statement .cpL := ⟨_, _, rfl, rfl⟩
theorem cpMemHl : Statement .cpMemHl := ⟨_, _, rfl, rfl⟩
theorem cpA : Statement .cpA := ⟨_, _, rfl, rfl⟩
theorem retNz : Statement .retNz := ⟨_, _, rfl, rfl⟩
theorem popBc : Statement .popBc := ⟨_, _, rfl, rfl⟩
theorem pushBc : Statement .pushBc := ⟨_, _, rfl, rfl⟩
theorem rst00 : Statement .rst00 := ⟨_, _, rfl, rfl⟩
theorem retZ : Statement .retZ := ⟨_, _, rfl, rfl⟩
theorem ret : Statement .ret := ⟨_, _, rfl, rfl⟩
theorem rst08 : Statement .rst08 := ⟨_, _, rfl, rfl⟩
theorem retNc : Statement .retNc := ⟨_, _, rfl, rfl⟩
theorem popDe : Statement .popDe := ⟨_, _, rfl, rfl⟩
theorem illegalD3 : Statement .illegalD3 := ⟨_, _, rfl, rfl⟩
theorem pushDe : Statement .pushDe := ⟨_, _, rfl, rfl⟩
theorem rst10 : Statement .rst10 := ⟨_, _, rfl, rfl⟩
theorem retC : Statement .retC := ⟨_, _, rfl, rfl⟩
theorem reti : Statement .reti := ⟨_, _, rfl, rfl⟩
theorem illegalDB : Statement .illegalDB := ⟨_, _, rfl, rfl⟩
theorem illegalDD : Statement .illegalDD := ⟨_, _, rfl, rfl⟩
theorem rst18 : Statement .rst18 := ⟨_, _, rfl, rfl⟩
theorem popHl : Statement .popHl := ⟨_, _, rfl, rfl⟩
theorem ldMemCA : Statement .ldMemCA := ⟨_, _, rfl, rfl⟩
theorem illegalE3 : Statement .illegalE3 := ⟨_, _, rfl, rfl⟩
theorem illegalE4 : Statement .illegalE4 := ⟨_, _, rfl, rfl⟩
theorem pushHl : Statement .pushHl := ⟨_, _, rfl, rfl⟩
theorem rst20 : Statement .rst20 := ⟨_, _, rfl, rfl⟩
theorem jpHl : Statement .jpHl := ⟨_, _, rfl, rfl⟩
theorem illegalEB : Statement .illegalEB := ⟨_, _, rfl, rfl⟩
theorem illegalEC : Statement .illegalEC := ⟨_, _, rfl, rfl⟩
theorem illegalED : Statement .illegalED := ⟨_, _, rfl, rfl⟩
theorem rst28 : Statement .rst28 := ⟨_, _, rfl, rfl⟩
theorem popAf : Statement .popAf := ⟨_, _, rfl, rfl⟩
theorem ldAMemC : Statement .ldAMemC := ⟨_, _, rfl, rfl⟩
theorem di : Statement .di := ⟨_, _, rfl, rfl⟩
theorem illegalF4 : Statement .illegalF4 := ⟨_, _, rfl, rfl⟩
theorem pushAf : Statement .pushAf := ⟨_, _, rfl, rfl⟩
theorem rst30 : Statement .rst30 := ⟨_, _, rfl, rfl⟩
theorem ldSpHl : Statement .ldSpHl := ⟨_, _, rfl, rfl⟩
theorem ei : Statement .ei := ⟨_, _, rfl, rfl⟩
theorem illegalFC : Statement .illegalFC := ⟨_, _, rfl, rfl⟩
theorem illegalFD : Statement .illegalFD := ⟨_, _, rfl, rfl⟩
theorem rst38 : Statement .rst38 := ⟨_, _, rfl, rfl⟩
theorem rlcB : Statement .rlcB := ⟨_, _, rfl, rfl⟩
theorem rlcC : Statement .rlcC := ⟨_, _, rfl, rfl⟩
theorem rlcD : Statement .rlcD := ⟨_, _, rfl, rfl⟩
theorem rlcE : Statement .rlcE := ⟨_, _, rfl, rfl⟩
theorem rlcH : Statement .rlcH := ⟨_, _, rfl, rfl⟩
theorem rlcL : Statement .rlcL := ⟨_, _, rfl, rfl⟩
theorem rlcMemHl : Statement .rlcMemHl := ⟨_, _, rfl, rfl⟩
theorem rlcA : Statement .rlcA := ⟨_, _, rfl, rfl⟩
theorem rrcB : Statement .rrcB := ⟨_, _, rfl, rfl⟩
theorem rrcC : Statement .rrcC := ⟨_, _, rfl, rfl⟩
theorem rrcD : Statement .rrcD := ⟨_, _, rfl, rfl⟩
theorem rrcE : Statement .rrcE := ⟨_, _, rfl, rfl⟩
theorem rrcH : Statement .rrcH := ⟨_, _, rfl, rfl⟩
theorem rrcL : Statement .rrcL := ⟨_, _, rfl, rfl⟩
theorem rrcMemHl : Statement .rrcMemHl := ⟨_, _, rfl, rfl⟩
theorem rrcA : Statement .rrcA := ⟨_, _, rfl, rfl⟩
theorem rlB : Statement .rlB := ⟨_, _, rfl, rfl⟩
theorem rlC : Statement .rlC := ⟨_, _, rfl, rfl⟩
theorem rlD : Statement .rlD := ⟨_, _, rfl, rfl⟩
theorem rlE : Statement .rlE := ⟨_, _, rfl, rfl⟩
theorem rlH : Statement .rlH := ⟨_, _, rfl, rfl⟩
theorem rlL : Statement .rlL := ⟨_, _, rfl, rfl⟩
theorem rlMemHl : Statement .rlMemHl := ⟨_, _, rfl, rfl⟩
theorem rlA : Statement .rlA := ⟨_, _, rfl, rfl⟩
theorem rrB : Statement .rrB := ⟨_, _, rfl, rfl⟩
theorem rrC : Statement .rrC := ⟨_, _, rfl, rfl⟩
theorem rrD : Statement .rrD := ⟨_, _, rfl, rfl⟩
theorem rrE : Statement .rrE := ⟨_, _, rfl, rfl⟩
theorem rrH : Statement .rrH := ⟨_, _, rfl, rfl⟩
theorem rrL : Statement .rrL := ⟨_, _, rfl, rfl⟩
theorem rrMemHl : Statement .rrMemHl := ⟨_, _, rfl, rfl⟩
theorem rrA : Statement .rrA := ⟨_, _, rfl, rfl⟩
theorem slaB : Statement .slaB := ⟨_, _, rfl, rfl⟩
theorem slaC : Statement .slaC := ⟨_, _, rfl, rfl⟩
theorem slaD : Statement .slaD := ⟨_, _, rfl, rfl⟩
theorem slaE : Statement .slaE := ⟨_, _, rfl, rfl⟩
theorem slaH : Statement .slaH := ⟨_, _, rfl, rfl⟩
theorem slaL : Statement .slaL := ⟨_, _, rfl, rfl⟩
theorem slaMemHl : Statement .slaMemHl := ⟨_, _, rfl, rfl⟩
theorem slaA : Statement .slaA := ⟨_, _, rfl, rfl⟩
theorem sraB : Statement .sraB := ⟨_, _, rfl, rfl⟩
theorem sraC : Statement .sraC := ⟨_, _, rfl, rfl⟩
theorem sraD : Statement .sraD := ⟨_, _, rfl, rfl⟩
theorem sraE : Statement .sraE := ⟨_, _, rfl, rfl⟩
theorem sraH : Statement .sraH := ⟨_, _, rfl, rfl⟩
theorem sraL : Statement .sraL := ⟨_, _, rfl, rfl⟩
theorem sraMemHl : Statement .sraMemHl := ⟨_, _, rfl, rfl⟩
theorem sraA : Statement .sraA := ⟨_, _, rfl, rfl⟩
theorem swapB : Statement .swapB := ⟨_, _, rfl, rfl⟩
theorem swapC : Statement .swapC := ⟨_, _, rfl, rfl⟩
theorem swapD : Statement .swapD := ⟨_, _, rfl, rfl⟩
theorem swapE : Statement .swapE := ⟨_, _, rfl, rfl⟩
theorem swapH : Statement .swapH := ⟨_, _, rfl, rfl⟩
theorem swapL : Statement .swapL := ⟨_, _, rfl, rfl⟩
theorem swapMemHl : Statement .swapMemHl := ⟨_, _, rfl, rfl⟩
theorem swapA : Statement .swapA := ⟨_, _, rfl, rfl⟩
theorem srlB : Statement .srlB := ⟨_, _, rfl, rfl⟩
theorem srlC : Statement .srlC := ⟨_, _, rfl, rfl⟩
theorem srlD : Statement .srlD := ⟨_, _, rfl, rfl⟩
theorem srlE : Statement .srlE := ⟨_, _, rfl, rfl⟩
theorem srlH : Statement .srlH := ⟨_, _, rfl, rfl⟩
theorem srlL : Statement .srlL := ⟨_, _, rfl, rfl⟩
theorem srlMemHl : Statement .srlMemHl := ⟨_, _, rfl, rfl⟩
theorem srlA : Statement .srlA := ⟨_, _, rfl, rfl⟩

end Sys2Proof.Laws.EncodingLength
end

