-- ==== Sys2Proof/Laws/Ppu.lean ====
section
/-! SUPPORT. What one dot step does to each field of the PPU (60_exceptions.md R341). -/

namespace Sys2Proof.Machine

@[simp] theorem compareLyc_ly (p : Ppu) : (compareLyc p).ly = p.ly := rfl
@[simp] theorem compareLyc_dots (p : Ppu) : (compareLyc p).dots = p.dots := rfl
@[simp] theorem compareLyc_mode (p : Ppu) : (compareLyc p).mode = p.mode := rfl
@[simp] theorem compareLyc_windowLine (p : Ppu) : (compareLyc p).windowLine = p.windowLine := rfl
@[simp] theorem compareLyc_sprites (p : Ppu) : (compareLyc p).sprites = p.sprites := rfl
@[simp] theorem compareLyc_fb (p : Ppu) : (compareLyc p).fb = p.fb := rfl

/-- The mode events do not move the position. -/
theorem modeEvents_position (mem : Memory) (p : Ppu) :
    (modeEvents mem p).ly = p.ly ∧ (modeEvents mem p).dots = p.dots := by
  unfold modeEvents; (repeat' split) <;> exact ⟨rfl, rfl⟩

theorem modeEvents_mode (mem : Memory) (p : Ppu) :
    (modeEvents mem p).mode =
      if p.ly.toNat ≤ 143 then
        if p.dots = 1 then .oamScan else if p.dots = 81 then .draw else if p.dots = 253 then .hblank else p.mode
      else if p.ly.toNat = 144 ∧ p.dots = 1 then .vblank else p.mode := by
  unfold modeEvents; (repeat' split) <;> rfl

theorem endDot_ly (p : Ppu) : (endDot p).ly = if p.dots = 456 then (if p.ly.toNat = 153 then 0 else p.ly + 1) else p.ly := by
  show (lineEnd p).ly = _
  unfold lineEnd; (repeat' split) <;> rfl

theorem endDot_dots (p : Ppu) : (endDot p).dots = if p.dots = 456 then 0 else p.dots := by
  show (lineEnd p).dots = _
  unfold lineEnd; (repeat' split) <;> rfl

theorem endDot_mode (p : Ppu) : (endDot p).mode = if p.dots = 456 ∧ p.ly.toNat = 153 then .oamScan else p.mode := by
  show (lineEnd p).mode = _
  unfold lineEnd
  by_cases h : p.dots = 456 <;> by_cases h' : p.ly.toNat = 153 <;> simp [h, h']

theorem endDot_windowLine (p : Ppu) : (endDot p).windowLine = p.windowLine := by
  show (lineEnd p).windowLine = _
  unfold lineEnd; (repeat' split) <;> rfl

theorem endDot_sprites (p : Ppu) : (endDot p).sprites = p.sprites := by
  show (lineEnd p).sprites = _
  unfold lineEnd; (repeat' split) <;> rfl

theorem endDot_fb (p : Ppu) : (endDot p).fb = p.fb := by
  show (lineEnd p).fb = _
  unfold lineEnd; (repeat' split) <;> rfl

/-- LY over a dot (60_exceptions.md R344, R345). -/
theorem dotStep_ly (s : State) :
    (dotStep s).ppu.ly = if s.ppu.dots = 455 then (if s.ppu.ly.toNat = 153 then 0 else s.ppu.ly + 1) else s.ppu.ly := by
  show (endDot (beginDot s.mem s.ppu)).ly = _
  rw [endDot_ly]; unfold beginDot
  rw [(modeEvents_position _ _).1, (modeEvents_position _ _).2]
  simp

/-- The dot counter over a dot (60_exceptions.md R344). -/
theorem dotStep_dots (s : State) : (dotStep s).ppu.dots = if s.ppu.dots = 455 then 0 else s.ppu.dots + 1 := by
  show (endDot (beginDot s.mem s.ppu)).dots = _
  rw [endDot_dots]; unfold beginDot
  rw [(modeEvents_position _ _).2]
  simp

/-- The mode over a dot (60_exceptions.md R342, R343, R345). -/
theorem dotStep_mode (s : State) :
    (dotStep s).ppu.mode =
      if s.ppu.ly.toNat ≤ 143 then
        if s.ppu.dots = 0 then .oamScan else if s.ppu.dots = 80 then .draw else if s.ppu.dots = 252 then .hblank
        else s.ppu.mode
      else if s.ppu.ly.toNat = 144 ∧ s.ppu.dots = 0 then .vblank
      else if s.ppu.dots = 455 ∧ s.ppu.ly.toNat = 153 then .oamScan
      else s.ppu.mode := by
  show (endDot (beginDot s.mem s.ppu)).mode = _
  rw [endDot_mode]; unfold beginDot
  rw [(modeEvents_position _ _).1, (modeEvents_position _ _).2, modeEvents_mode]
  dsimp only
  by_cases hl : s.ppu.ly.toNat ≤ 143
  · have : ¬ s.ppu.ly.toNat = 153 := by omega
    simp [hl, this]
  · by_cases h : s.ppu.ly.toNat = 144 ∧ s.ppu.dots = 0
    · simp [h]
    · simp only [hl, h, if_false, Nat.succ.injEq]

/-- The window's line counter over a scanline draw (60_exceptions.md R359, R362). -/
theorem drawScanline_windowLine (mem : Memory) (p : Ppu) :
    (drawScanline mem p).windowLine = if (List.range 160).any (windowCovers p) then p.windowLine + 1 else p.windowLine := rfl

/-- The window's line counter over a dot (60_exceptions.md R343, R362). -/
theorem dotStep_windowLine (s : State) :
    ((dotStep s).ppu.windowLine = s.ppu.windowLine
        ∨ (s.ppu.ly.toNat ≤ 143 ∧ s.ppu.dots = 80 ∧ (dotStep s).ppu.windowLine = s.ppu.windowLine + 1)
        ∨ (s.ppu.ly.toNat = 144 ∧ s.ppu.dots = 0))
      ∧ (s.ppu.ly.toNat = 144 → s.ppu.dots = 0 → (dotStep s).ppu.windowLine = 0) := by
  show ((endDot (beginDot s.mem s.ppu)).windowLine = _ ∨ (_ ∧ _ ∧ (endDot (beginDot s.mem s.ppu)).windowLine = _) ∨ _)
    ∧ (_ → _ → (endDot (beginDot s.mem s.ppu)).windowLine = 0)
  rw [endDot_windowLine]
  unfold beginDot modeEvents
  dsimp only
  by_cases hl : s.ppu.ly.toNat ≤ 143
  · have hn : ¬ s.ppu.ly.toNat = 144 := by omega
    refine ⟨?_, fun h => absurd h hn⟩
    by_cases h0 : s.ppu.dots = 0
    · left; simp [hl, h0, spriteScan]
    · by_cases h80 : s.ppu.dots = 80
      · simp only [hl, h80, if_true]
        rw [if_neg (by omega : ¬ (80 + 1 = 1)), drawScanline_windowLine]
        split <;> simp
      · left
        simp [hl, h0, h80]
        split <;> rfl
  · by_cases h : s.ppu.ly.toNat = 144 ∧ s.ppu.dots = 0
    · simp [h]
    · have h' : ¬ (s.ppu.ly.toNat = 144 ∧ s.ppu.dots + 1 = 1) := by omega
      refine ⟨?_, fun h1 h2 => absurd ⟨h1, h2⟩ h⟩
      left
      rw [if_neg hl, if_neg h']

theorem placeSprite_length (e : Sprite) (l : List Sprite) : (placeSprite e l).length = l.length + 1 := by
  induction l with
  | nil => rfl
  | cons o rest ih => unfold placeSprite; split <;> simp [ih]

theorem inDrawOrder_length (l : List Sprite) : (inDrawOrder l).length = l.length := by
  induction l with
  | nil => rfl
  | cons e rest ih => simp [inDrawOrder, placeSprite_length, ih]

/-- The sprite buffer never holds more than ten (60_exceptions.md R352). -/
theorem spriteScan_length (mem : Memory) (p : Ppu) : (spriteScan mem p).sprites.length ≤ 10 := by
  show (inDrawOrder _).length ≤ 10
  rw [inDrawOrder_length]; unfold selectedSprites
  rw [List.length_take]; omega

/-- The sprite buffer over a dot. -/
theorem dotStep_sprites (s : State) :
    (dotStep s).ppu.sprites =
      if s.ppu.ly.toNat ≤ 143 ∧ s.ppu.dots = 0 then (spriteScan s.mem s.ppu).sprites else s.ppu.sprites := by
  show (endDot (beginDot s.mem s.ppu)).sprites = _
  rw [endDot_sprites]
  unfold beginDot modeEvents
  dsimp only
  by_cases hl : s.ppu.ly.toNat ≤ 143
  · by_cases h0 : s.ppu.dots = 0
    · simp [hl, h0]; rfl
    · simp only [hl, h0, and_false, if_false, if_true]
      (repeat' split) <;> first | rfl | omega
  · simp only [hl, false_and, if_false]
    split <;> rfl

/-- STAT's low two bits over a dot (60_exceptions.md R346). -/
theorem mirror_low (stat : Byte) (m : Mode) : ((stat &&& 0xFC) ||| modeCode m) &&& 0x03 = modeCode m := by
  apply BitVec.eq_of_getLsbD_eq
  intro i hi
  rcases i with _ | _ | _ | _ | _ | _ | _ | _ | i
  all_goals first | omega | (cases m <;> simp [modeCode])

theorem dotStep_mirror (s : State) : (dotStep s).ppu.stat &&& 0x03 = modeCode (dotStep s).ppu.mode :=
  mirror_low _ _

/-- The frame output of a dot (60_exceptions.md R368). -/
theorem dotStep_frames (s : State) :
    (dotStep s).out.frames =
      if s.ppu.dots = 455 ∧ s.ppu.ly.toNat = 153 then s.ppu.fb :: s.out.frames else s.out.frames := by
  show (if frameEnds (beginDot s.mem s.ppu) then (beginDot s.mem s.ppu).fb :: s.out.frames else s.out.frames) = _
  unfold frameEnds beginDot
  rw [(modeEvents_position _ _).1, (modeEvents_position _ _).2]
  simp only [Bool.and_eq_true, decide_eq_true_eq]
  by_cases h : s.ppu.dots = 455 ∧ s.ppu.ly.toNat = 153
  · simp only [h, and_self, if_true]
    congr 1
    unfold modeEvents
    simp [h]
  · have : ¬ (s.ppu.dots + 1 = 456 ∧ s.ppu.ly.toNat = 153) := by omega
    rw [if_neg this, if_neg h]

/-- A dot step touches the PPU and the frames output, nothing else. -/
theorem dotStep_others (s : State) :
    (dotStep s).cpu = s.cpu ∧ (dotStep s).bus = s.bus ∧ (dotStep s).timer = s.timer ∧ (dotStep s).mem = s.mem
      ∧ (dotStep s).cart = s.cart ∧ (dotStep s).out.reports = s.out.reports :=
  ⟨rfl, rfl, rfl, rfl, rfl, rfl⟩

/-- Any number of dot steps touches the PPU and the frames output, nothing else. -/
theorem dotSteps_others (k : Nat) (s : State) :
    (dotSteps k s).cpu = s.cpu ∧ (dotSteps k s).bus = s.bus ∧ (dotSteps k s).timer = s.timer ∧ (dotSteps k s).mem = s.mem
      ∧ (dotSteps k s).cart = s.cart ∧ (dotSteps k s).out.reports = s.out.reports := by
  induction k generalizing s with
  | zero => exact ⟨rfl, rfl, rfl, rfl, rfl, rfl⟩
  | succ k ih => exact ih (dotStep s)

/-- A property of the machine that each dot step keeps is kept by any number of them. -/
theorem dotSteps_induction {P : State → Prop} (h : ∀ s, P s → P (dotStep s)) (k : Nat) (s : State) (hs : P s) :
    P (dotSteps k s) := by
  induction k generalizing s with
  | zero => exact hs
  | succ k ih => exact ih (dotStep s) (h s hs)

end Sys2Proof.Machine
end

