-- ==== Sys2Proof/Laws/Stack.lean ====
section
/-! SUPPORT. A store followed by register updates in one form, and the stack operations in that form. -/

namespace Sys2Proof.Machine

/-- A meaning that changes CPU registers only leaves every address reading as before. -/
theorem RegistersOnly.of {i : Instr} {s : State} {c : Cpu} (h : exec i s = .next { s with cpu := c }) : RegistersOnly i s c :=
  ⟨h, fun _ => rfl⟩

/-- A store that ends a meaning. -/
theorem took_busWrite (s : State) (a : Addr) (v : Byte) (n : Nat) :
    (busWrite s a v).took n = { busWrite s a v with cpu := { s.cpu with cycles := n } } := by
  simp [State.took]

/-- What a store reaches does not depend on an earlier store. -/
theorem storeReaches_busWrite (s : State) (a b c : Addr) (v : Byte) :
    StoreReaches (busWrite s a v) b c ↔ StoreReaches s b c := by
  have h : (busWrite s a v).cart ≠ .flatRom ↔ s.cart ≠ .flatRom := not_congr (busWrite_keeps s a v).flat
  unfold StoreReaches; rw [h]

/-- `Push16` is its two bus writes and SP moved down by two (00_scope.md R7). -/
theorem push16_eq (v : Addr) (s : State) :
    push16 v s = { pushWrites s v with cpu := { s.cpu with sp := s.cpu.sp - 2 } } := by
  have e : s.cpu.sp - 1 - 1 = s.cpu.sp - 2 := by rw [BitVec.sub_sub]; rfl
  simp only [push16, pushWrites, State.setSp, hi, lo, busWrite_cpu, e]

/-- Pushing changes no CPU register but SP. -/
theorem push16_cpu (v : Addr) (s : State) : (push16 v s).cpu = { s.cpu with sp := s.cpu.sp - 2 } := by rw [push16_eq]

end Sys2Proof.Machine
end

