-- ==== Sys2Proof/Laws/Step.lean ====
section
/-! SUPPORT. Fetching from any state, and what running the fetched instruction can do. -/

namespace Sys2Proof.Machine

theorem decode_three (a b c : Byte) : ∃ i rest, decode [a, b, c] = .ok (i, rest) := by
  unfold decode
  dsimp only
  split <;> exact ⟨_, _, rfl⟩

/-- A fetch finds an instruction and moves PC, whatever the state. -/
theorem fetch_ok (s : State) : ∃ i pc, fetch s = .ok (i, s.setPc pc) := by
  obtain ⟨i, rest, h⟩ := decode_three (busRead s s.cpu.pc) (busRead s (s.cpu.pc + 1)) (busRead s (s.cpu.pc + 2))
  unfold fetch fetchBytes
  rw [h]; exact ⟨_, _, rfl⟩

/-- Fetching and running an instruction completes, whatever the state. -/
theorem runInstruction_completes (s : State) : ∃ t, runInstruction s = .next t ∧ Completes s t := by
  obtain ⟨i, pc, h⟩ := fetch_ok s
  obtain ⟨t, ht, hc⟩ := exec_completes i (s.setPc pc)
  unfold runInstruction
  rw [h]
  exact ⟨t, ht, ((Runs.refl s).setPc pc).trans hc.runs, hc.positive, hc.atMostSix⟩

end Sys2Proof.Machine
end

