-- ==== Sys2Proof/Laws/Timer.lean ====
section
/-! SUPPORT. What increments of TIMA leave alone, and how they add up (60_exceptions.md R332). -/

namespace Sys2Proof.Machine

theorem timerPeriod_pos (tac : Byte) : 0 < timerPeriod tac := by unfold timerPeriod; split <;> decide

theorem countTima_keeps (t : Timer) : countTima t = { t with tima := (countTima t).tima, req := (countTima t).req } := by
  unfold countTima; split <;> rfl

/-- Increments of TIMA change TIMA and the request line only. -/
theorem countTimaTimes_keeps (k : Nat) (t : Timer) :
    countTimaTimes k t = { t with tima := (countTimaTimes k t).tima, req := (countTimaTimes k t).req } := by
  induction k generalizing t with
  | zero => rfl
  | succ k ih =>
    show countTimaTimes k (countTima t) = _
    rw [ih, countTima_keeps]
    simp only [countTimaTimes, ← countTima_keeps]

theorem countTimaTimes_add (j k : Nat) (t : Timer) : countTimaTimes k (countTimaTimes j t) = countTimaTimes (j + k) t := by
  induction j generalizing t with
  | zero => rw [Nat.zero_add]; rfl
  | succ j ih => rw [Nat.succ_add]; exact ih _

/-- Increments of TIMA do not read the divider or the remainders. -/
theorem countTimaTimes_others (k : Nat) (t : Timer) (d : Byte) (r m : Nat) :
    countTimaTimes k { t with div := d, divRemainder := r, timaRemainder := m } =
      { countTimaTimes k t with div := d, divRemainder := r, timaRemainder := m } := by
  induction k generalizing t with
  | zero => rfl
  | succ k ih =>
    show countTimaTimes k (countTima _) = { countTimaTimes k (countTima t) with div := d, divRemainder := r, timaRemainder := m }
    rw [← ih]
    congr 1
    unfold countTima
    dsimp only
    split <;> rfl

end Sys2Proof.Machine
end

