-- ==== Sys2Proof/Tests/Slice0.lean ====
section
/-! SUPPORT. Tests: the checks of WellFormed; every opcode of the two maps decoded from words written out from the opcode table;
the spec's own test vectors for single steps; and, for every obligation with hypotheses, a witness that meets them. -/

namespace Sys2Proof.Tests

open Sys2Proof.Machine

/-- Each byte string decodes to its instruction, with nothing left over. -/
def readAs (rows : List (List Byte × Instr)) : Bool :=
  rows.all fun row =>
    match decode row.1 with
    | .ok (i, []) => i == row.2
    | _ => false

/-- The state after reset with these bytes in memory. -/
def loaded (mem : Memory) : State := { State.reset with mem := mem }

/-- The CPU step from `s` gives a state of which `f` holds. -/
def ranTo (s : State) (f : State → Bool) : Bool :=
  match cpuStep s with
  | .next t => f t
  | _ => false

/-- The system step from `s` gives a state of which `f` holds. -/
def steppedTo (s : State) (f : State → Bool) : Bool :=
  match step s with
  | .next t => f t
  | _ => false

/-! ## WellFormed -/

theorem test_wf_refuses_bare_prefix : ([0x00, 0x37, 0xFF] : List Byte).all (fun cb => !(Instr.prefixCb cb).wf) = true := by decide

theorem test_wf_accepts_operands : (Instr.ldBcD16 0xFFFF).wf = true ∧ (Instr.bitMemHl 7).wf = true ∧ Instr.illegalFD.wf = true := by
  decide

/-! ## Decoding: words from the opcode table -/

/-- Opcodes 0x00 to 0x1F of the primary map (30_encoding.md R94). -/
theorem test_decode_primary_00 : readAs
    [([0x00], .nop), ([0x01, 0x16, 0xC5], .ldBcD16 0xC516), ([0x02], .ldMemBcA), ([0x03], .incBc), ([0x04], .incB),
     ([0x05], .decB), ([0x06, 0x85], .ldBD8 0x85), ([0x07], .rlca), ([0x08, 0x39, 0xDA], .ldMemA16Sp 0xDA39),
     ([0x09], .addHlBc), ([0x0A], .ldAMemBc), ([0x0B], .decBc), ([0x0C], .incC), ([0x0D], .decC),
     ([0x0E, 0xBD], .ldCD8 0xBD), ([0x0F], .rrca), ([0x10, 0xCB], .stop 0xCB),
     ([0x11, 0x66, 0xF5], .ldDeD16 0xF566), ([0x12], .ldMemDeA), ([0x13], .incDe), ([0x14], .incD), ([0x15], .decD),
     ([0x16, 0xF5], .ldDD8 0xF5), ([0x17], .rla), ([0x18, 0x03], .jrE8 0x03), ([0x19], .addHlDe),
     ([0x1A], .ldAMemDe), ([0x1B], .decDe), ([0x1C], .incE), ([0x1D], .decE), ([0x1E, 0x2D], .ldED8 0x2D),
     ([0x1F], .rra)] = true := by decide

/-- Opcodes 0x20 to 0x3F of the primary map (30_encoding.md R94). -/
theorem test_decode_primary_20 : readAs
    [([0x20, 0x3B], .jrNzE8 0x3B), ([0x21, 0xB6, 0x25], .ldHlD16 0x25B6), ([0x22], .ldMemHlIncA), ([0x23], .incHl),
     ([0x24], .incH), ([0x25], .decH), ([0x26, 0x65], .ldHD8 0x65), ([0x27], .daa), ([0x28, 0x73], .jrZE8 0x73),
     ([0x29], .addHlHl), ([0x2A], .ldAMemHlInc), ([0x2B], .decHl), ([0x2C], .incL), ([0x2D], .decL),
     ([0x2E, 0x9D], .ldLD8 0x9D), ([0x2F], .cpl), ([0x30, 0xAB], .jrNcE8 0xAB),
     ([0x31, 0x06, 0x55], .ldSpD16 0x5506), ([0x32], .ldMemHlDecA), ([0x33], .incSp), ([0x34], .incMemHl),
     ([0x35], .decMemHl), ([0x36, 0xD5], .ldMemHlD8 0xD5), ([0x37], .scf), ([0x38, 0xE3], .jrCE8 0xE3),
     ([0x39], .addHlSp), ([0x3A], .ldAMemHlDec), ([0x3B], .decSp), ([0x3C], .incA), ([0x3D], .decA),
     ([0x3E, 0x0D], .ldAD8 0x0D), ([0x3F], .ccf)] = true := by decide

/-- Opcodes 0x40 to 0x5F of the primary map (30_encoding.md R94). -/
theorem test_decode_primary_40 : readAs
    [([0x40], .ldBB), ([0x41], .ldBC), ([0x42], .ldBD), ([0x43], .ldBE), ([0x44], .ldBH), ([0x45], .ldBL),
     ([0x46], .ldBMemHl), ([0x47], .ldBA), ([0x48], .ldCB), ([0x49], .ldCC), ([0x4A], .ldCD), ([0x4B], .ldCE),
     ([0x4C], .ldCH), ([0x4D], .ldCL), ([0x4E], .ldCMemHl), ([0x4F], .ldCA), ([0x50], .ldDB), ([0x51], .ldDC),
     ([0x52], .ldDD), ([0x53], .ldDE), ([0x54], .ldDH), ([0x55], .ldDL), ([0x56], .ldDMemHl), ([0x57], .ldDA),
     ([0x58], .ldEB), ([0x59], .ldEC), ([0x5A], .ldED), ([0x5B], .ldEE), ([0x5C], .ldEH), ([0x5D], .ldEL),
     ([0x5E], .ldEMemHl), ([0x5F], .ldEA)] = true := by decide

/-- Opcodes 0x60 to 0x7F of the primary map (30_encoding.md R94). -/
theorem test_decode_primary_60 : readAs
    [([0x60], .ldHB), ([0x61], .ldHC), ([0x62], .ldHD), ([0x63], .ldHE), ([0x64], .ldHH), ([0x65], .ldHL),
     ([0x66], .ldHMemHl), ([0x67], .ldHA), ([0x68], .ldLB), ([0x69], .ldLC), ([0x6A], .ldLD), ([0x6B], .ldLE),
     ([0x6C], .ldLH), ([0x6D], .ldLL), ([0x6E], .ldLMemHl), ([0x6F], .ldLA), ([0x70], .ldMemHlB),
     ([0x71], .ldMemHlC), ([0x72], .ldMemHlD), ([0x73], .ldMemHlE), ([0x74], .ldMemHlH), ([0x75], .ldMemHlL),
     ([0x76], .halt), ([0x77], .ldMemHlA), ([0x78], .ldAB), ([0x79], .ldAC), ([0x7A], .ldAD), ([0x7B], .ldAE),
     ([0x7C], .ldAH), ([0x7D], .ldAL), ([0x7E], .ldAMemHl), ([0x7F], .ldAA)] = true := by decide

/-- Opcodes 0x80 to 0x9F of the primary map (30_encoding.md R94). -/
theorem test_decode_primary_80 : readAs
    [([0x80], .addAB), ([0x81], .addAC), ([0x82], .addAD), ([0x83], .addAE), ([0x84], .addAH), ([0x85], .addAL),
     ([0x86], .addAMemHl), ([0x87], .addAA), ([0x88], .adcAB), ([0x89], .adcAC), ([0x8A], .adcAD), ([0x8B], .adcAE),
     ([0x8C], .adcAH), ([0x8D], .adcAL), ([0x8E], .adcAMemHl), ([0x8F], .adcAA), ([0x90], .subB), ([0x91], .subC),
     ([0x92], .subD), ([0x93], .subE), ([0x94], .subH), ([0x95], .subL), ([0x96], .subMemHl), ([0x97], .subA),
     ([0x98], .sbcAB), ([0x99], .sbcAC), ([0x9A], .sbcAD), ([0x9B], .sbcAE), ([0x9C], .sbcAH), ([0x9D], .sbcAL),
     ([0x9E], .sbcAMemHl), ([0x9F], .sbcAA)] = true := by decide

/-- Opcodes 0xA0 to 0xBF of the primary map (30_encoding.md R94). -/
theorem test_decode_primary_A0 : readAs
    [([0xA0], .andB), ([0xA1], .andC), ([0xA2], .andD), ([0xA3], .andE), ([0xA4], .andH), ([0xA5], .andL),
     ([0xA6], .andMemHl), ([0xA7], .andA), ([0xA8], .xorB), ([0xA9], .xorC), ([0xAA], .xorD), ([0xAB], .xorE),
     ([0xAC], .xorH), ([0xAD], .xorL), ([0xAE], .xorMemHl), ([0xAF], .xorA), ([0xB0], .orB), ([0xB1], .orC),
     ([0xB2], .orD), ([0xB3], .orE), ([0xB4], .orH), ([0xB5], .orL), ([0xB6], .orMemHl), ([0xB7], .orA),
     ([0xB8], .cpB), ([0xB9], .cpC), ([0xBA], .cpD), ([0xBB], .cpE), ([0xBC], .cpH), ([0xBD], .cpL),
     ([0xBE], .cpMemHl), ([0xBF], .cpA)] = true := by decide

/-- Opcodes 0xC0 to 0xDF of the primary map (30_encoding.md R94). -/
theorem test_decode_primary_C0 : readAs
    [([0xC0], .retNz), ([0xC1], .popBc), ([0xC2, 0xDB, 0x08], .jpNzA16 0x08DB), ([0xC3, 0xE0, 0x0B], .jpA16 0x0BE0),
     ([0xC4, 0xE5, 0x0E], .callNzA16 0x0EE5), ([0xC5], .pushBc), ([0xC6, 0xC5], .addAD8 0xC5), ([0xC7], .rst00),
     ([0xC8], .retZ), ([0xC9], .ret), ([0xCA, 0x03, 0x20], .jpZA16 0x2003), ([0xCC, 0x0D, 0x26], .callZA16 0x260D),
     ([0xCD, 0x12, 0x29], .callA16 0x2912), ([0xCE, 0xFD], .adcAD8 0xFD), ([0xCF], .rst08), ([0xD0], .retNc),
     ([0xD1], .popDe), ([0xD2, 0x2B, 0x38], .jpNcA16 0x382B), ([0xD3], .illegalD3),
     ([0xD4, 0x35, 0x3E], .callNcA16 0x3E35), ([0xD5], .pushDe), ([0xD6, 0x35], .subD8 0x35), ([0xD7], .rst10),
     ([0xD8], .retC), ([0xD9], .reti), ([0xDA, 0x53, 0x50], .jpCA16 0x5053), ([0xDB], .illegalDB),
     ([0xDC, 0x5D, 0x56], .callCA16 0x565D), ([0xDD], .illegalDD), ([0xDE, 0x6D], .sbcAD8 0x6D), ([0xDF], .rst18)] = true := by decide

/-- Opcodes 0xE0 to 0xFF of the primary map (30_encoding.md R94). -/
theorem test_decode_primary_E0 : readAs
    [([0xE0, 0x7B], .ldhMemA8A 0x7B), ([0xE1], .popHl), ([0xE2], .ldMemCA), ([0xE3], .illegalE3),
     ([0xE4], .illegalE4), ([0xE5], .pushHl), ([0xE6, 0xA5], .andD8 0xA5), ([0xE7], .rst20),
     ([0xE8, 0xB3], .addSpE8 0xB3), ([0xE9], .jpHl), ([0xEA, 0xA3, 0x80], .ldMemA16A 0x80A3), ([0xEB], .illegalEB),
     ([0xEC], .illegalEC), ([0xED], .illegalED), ([0xEE, 0xDD], .xorD8 0xDD), ([0xEF], .rst28),
     ([0xF0, 0xEB], .ldhAMemA8 0xEB), ([0xF1], .popAf), ([0xF2], .ldAMemC), ([0xF3], .di), ([0xF4], .illegalF4),
     ([0xF5], .pushAf), ([0xF6, 0x15], .orD8 0x15), ([0xF7], .rst30), ([0xF8, 0x23], .ldHlSpE8 0x23),
     ([0xF9], .ldSpHl), ([0xFA, 0xF3, 0xB0], .ldAMemA16 0xB0F3), ([0xFB], .ei), ([0xFC], .illegalFC),
     ([0xFD], .illegalFD), ([0xFE, 0x4D], .cpD8 0x4D), ([0xFF], .rst38)] = true := by decide

/-- Second bytes 0x00 to 0x1F after 0xCB: the rotates and shifts 0x00 to 0x1F (30_encoding.md R96). -/
theorem test_decode_secondary_00 : readAs
    [([0xCB, 0x00], .rlcB), ([0xCB, 0x01], .rlcC), ([0xCB, 0x02], .rlcD), ([0xCB, 0x03], .rlcE),
     ([0xCB, 0x04], .rlcH), ([0xCB, 0x05], .rlcL), ([0xCB, 0x06], .rlcMemHl), ([0xCB, 0x07], .rlcA),
     ([0xCB, 0x08], .rrcB), ([0xCB, 0x09], .rrcC), ([0xCB, 0x0A], .rrcD), ([0xCB, 0x0B], .rrcE),
     ([0xCB, 0x0C], .rrcH), ([0xCB, 0x0D], .rrcL), ([0xCB, 0x0E], .rrcMemHl), ([0xCB, 0x0F], .rrcA),
     ([0xCB, 0x10], .rlB), ([0xCB, 0x11], .rlC), ([0xCB, 0x12], .rlD), ([0xCB, 0x13], .rlE), ([0xCB, 0x14], .rlH),
     ([0xCB, 0x15], .rlL), ([0xCB, 0x16], .rlMemHl), ([0xCB, 0x17], .rlA), ([0xCB, 0x18], .rrB),
     ([0xCB, 0x19], .rrC), ([0xCB, 0x1A], .rrD), ([0xCB, 0x1B], .rrE), ([0xCB, 0x1C], .rrH), ([0xCB, 0x1D], .rrL),
     ([0xCB, 0x1E], .rrMemHl), ([0xCB, 0x1F], .rrA)] = true := by decide

/-- Second bytes 0x20 to 0x3F after 0xCB: the shifts and SWAP 0x20 to 0x3F (30_encoding.md R96). -/
theorem test_decode_secondary_20 : readAs
    [([0xCB, 0x20], .slaB), ([0xCB, 0x21], .slaC), ([0xCB, 0x22], .slaD), ([0xCB, 0x23], .slaE),
     ([0xCB, 0x24], .slaH), ([0xCB, 0x25], .slaL), ([0xCB, 0x26], .slaMemHl), ([0xCB, 0x27], .slaA),
     ([0xCB, 0x28], .sraB), ([0xCB, 0x29], .sraC), ([0xCB, 0x2A], .sraD), ([0xCB, 0x2B], .sraE),
     ([0xCB, 0x2C], .sraH), ([0xCB, 0x2D], .sraL), ([0xCB, 0x2E], .sraMemHl), ([0xCB, 0x2F], .sraA),
     ([0xCB, 0x30], .swapB), ([0xCB, 0x31], .swapC), ([0xCB, 0x32], .swapD), ([0xCB, 0x33], .swapE),
     ([0xCB, 0x34], .swapH), ([0xCB, 0x35], .swapL), ([0xCB, 0x36], .swapMemHl), ([0xCB, 0x37], .swapA),
     ([0xCB, 0x38], .srlB), ([0xCB, 0x39], .srlC), ([0xCB, 0x3A], .srlD), ([0xCB, 0x3B], .srlE),
     ([0xCB, 0x3C], .srlH), ([0xCB, 0x3D], .srlL), ([0xCB, 0x3E], .srlMemHl), ([0xCB, 0x3F], .srlA)] = true := by decide

/-- Second bytes 0x40 to 0x5F after 0xCB: BIT (30_encoding.md R96). -/
theorem test_decode_secondary_40 : readAs
    [([0xCB, 0x40], .bitB 0), ([0xCB, 0x41], .bitC 0), ([0xCB, 0x42], .bitD 0), ([0xCB, 0x43], .bitE 0),
     ([0xCB, 0x44], .bitH 0), ([0xCB, 0x45], .bitL 0), ([0xCB, 0x46], .bitMemHl 0), ([0xCB, 0x47], .bitA 0),
     ([0xCB, 0x48], .bitB 1), ([0xCB, 0x49], .bitC 1), ([0xCB, 0x4A], .bitD 1), ([0xCB, 0x4B], .bitE 1),
     ([0xCB, 0x4C], .bitH 1), ([0xCB, 0x4D], .bitL 1), ([0xCB, 0x4E], .bitMemHl 1), ([0xCB, 0x4F], .bitA 1),
     ([0xCB, 0x50], .bitB 2), ([0xCB, 0x51], .bitC 2), ([0xCB, 0x52], .bitD 2), ([0xCB, 0x53], .bitE 2),
     ([0xCB, 0x54], .bitH 2), ([0xCB, 0x55], .bitL 2), ([0xCB, 0x56], .bitMemHl 2), ([0xCB, 0x57], .bitA 2),
     ([0xCB, 0x58], .bitB 3), ([0xCB, 0x59], .bitC 3), ([0xCB, 0x5A], .bitD 3), ([0xCB, 0x5B], .bitE 3),
     ([0xCB, 0x5C], .bitH 3), ([0xCB, 0x5D], .bitL 3), ([0xCB, 0x5E], .bitMemHl 3), ([0xCB, 0x5F], .bitA 3)] = true := by decide

/-- Second bytes 0x60 to 0x7F after 0xCB: BIT, bits 4 to 7 (30_encoding.md R96). -/
theorem test_decode_secondary_60 : readAs
    [([0xCB, 0x60], .bitB 4), ([0xCB, 0x61], .bitC 4), ([0xCB, 0x62], .bitD 4), ([0xCB, 0x63], .bitE 4),
     ([0xCB, 0x64], .bitH 4), ([0xCB, 0x65], .bitL 4), ([0xCB, 0x66], .bitMemHl 4), ([0xCB, 0x67], .bitA 4),
     ([0xCB, 0x68], .bitB 5), ([0xCB, 0x69], .bitC 5), ([0xCB, 0x6A], .bitD 5), ([0xCB, 0x6B], .bitE 5),
     ([0xCB, 0x6C], .bitH 5), ([0xCB, 0x6D], .bitL 5), ([0xCB, 0x6E], .bitMemHl 5), ([0xCB, 0x6F], .bitA 5),
     ([0xCB, 0x70], .bitB 6), ([0xCB, 0x71], .bitC 6), ([0xCB, 0x72], .bitD 6), ([0xCB, 0x73], .bitE 6),
     ([0xCB, 0x74], .bitH 6), ([0xCB, 0x75], .bitL 6), ([0xCB, 0x76], .bitMemHl 6), ([0xCB, 0x77], .bitA 6),
     ([0xCB, 0x78], .bitB 7), ([0xCB, 0x79], .bitC 7), ([0xCB, 0x7A], .bitD 7), ([0xCB, 0x7B], .bitE 7),
     ([0xCB, 0x7C], .bitH 7), ([0xCB, 0x7D], .bitL 7), ([0xCB, 0x7E], .bitMemHl 7), ([0xCB, 0x7F], .bitA 7)] = true := by decide

/-- Second bytes 0x80 to 0x9F after 0xCB: RES (30_encoding.md R96). -/
theorem test_decode_secondary_80 : readAs
    [([0xCB, 0x80], .resB 0), ([0xCB, 0x81], .resC 0), ([0xCB, 0x82], .resD 0), ([0xCB, 0x83], .resE 0),
     ([0xCB, 0x84], .resH 0), ([0xCB, 0x85], .resL 0), ([0xCB, 0x86], .resMemHl 0), ([0xCB, 0x87], .resA 0),
     ([0xCB, 0x88], .resB 1), ([0xCB, 0x89], .resC 1), ([0xCB, 0x8A], .resD 1), ([0xCB, 0x8B], .resE 1),
     ([0xCB, 0x8C], .resH 1), ([0xCB, 0x8D], .resL 1), ([0xCB, 0x8E], .resMemHl 1), ([0xCB, 0x8F], .resA 1),
     ([0xCB, 0x90], .resB 2), ([0xCB, 0x91], .resC 2), ([0xCB, 0x92], .resD 2), ([0xCB, 0x93], .resE 2),
     ([0xCB, 0x94], .resH 2), ([0xCB, 0x95], .resL 2), ([0xCB, 0x96], .resMemHl 2), ([0xCB, 0x97], .resA 2),
     ([0xCB, 0x98], .resB 3), ([0xCB, 0x99], .resC 3), ([0xCB, 0x9A], .resD 3), ([0xCB, 0x9B], .resE 3),
     ([0xCB, 0x9C], .resH 3), ([0xCB, 0x9D], .resL 3), ([0xCB, 0x9E], .resMemHl 3), ([0xCB, 0x9F], .resA 3)] = true := by decide

/-- Second bytes 0xA0 to 0xBF after 0xCB: RES, bits 4 to 7 (30_encoding.md R96). -/
theorem test_decode_secondary_A0 : readAs
    [([0xCB, 0xA0], .resB 4), ([0xCB, 0xA1], .resC 4), ([0xCB, 0xA2], .resD 4), ([0xCB, 0xA3], .resE 4),
     ([0xCB, 0xA4], .resH 4), ([0xCB, 0xA5], .resL 4), ([0xCB, 0xA6], .resMemHl 4), ([0xCB, 0xA7], .resA 4),
     ([0xCB, 0xA8], .resB 5), ([0xCB, 0xA9], .resC 5), ([0xCB, 0xAA], .resD 5), ([0xCB, 0xAB], .resE 5),
     ([0xCB, 0xAC], .resH 5), ([0xCB, 0xAD], .resL 5), ([0xCB, 0xAE], .resMemHl 5), ([0xCB, 0xAF], .resA 5),
     ([0xCB, 0xB0], .resB 6), ([0xCB, 0xB1], .resC 6), ([0xCB, 0xB2], .resD 6), ([0xCB, 0xB3], .resE 6),
     ([0xCB, 0xB4], .resH 6), ([0xCB, 0xB5], .resL 6), ([0xCB, 0xB6], .resMemHl 6), ([0xCB, 0xB7], .resA 6),
     ([0xCB, 0xB8], .resB 7), ([0xCB, 0xB9], .resC 7), ([0xCB, 0xBA], .resD 7), ([0xCB, 0xBB], .resE 7),
     ([0xCB, 0xBC], .resH 7), ([0xCB, 0xBD], .resL 7), ([0xCB, 0xBE], .resMemHl 7), ([0xCB, 0xBF], .resA 7)] = true := by decide

/-- Second bytes 0xC0 to 0xDF after 0xCB: SET (30_encoding.md R96). -/
theorem test_decode_secondary_C0 : readAs
    [([0xCB, 0xC0], .setB 0), ([0xCB, 0xC1], .setC 0), ([0xCB, 0xC2], .setD 0), ([0xCB, 0xC3], .setE 0),
     ([0xCB, 0xC4], .setH 0), ([0xCB, 0xC5], .setL 0), ([0xCB, 0xC6], .setMemHl 0), ([0xCB, 0xC7], .setA 0),
     ([0xCB, 0xC8], .setB 1), ([0xCB, 0xC9], .setC 1), ([0xCB, 0xCA], .setD 1), ([0xCB, 0xCB], .setE 1),
     ([0xCB, 0xCC], .setH 1), ([0xCB, 0xCD], .setL 1), ([0xCB, 0xCE], .setMemHl 1), ([0xCB, 0xCF], .setA 1),
     ([0xCB, 0xD0], .setB 2), ([0xCB, 0xD1], .setC 2), ([0xCB, 0xD2], .setD 2), ([0xCB, 0xD3], .setE 2),
     ([0xCB, 0xD4], .setH 2), ([0xCB, 0xD5], .setL 2), ([0xCB, 0xD6], .setMemHl 2), ([0xCB, 0xD7], .setA 2),
     ([0xCB, 0xD8], .setB 3), ([0xCB, 0xD9], .setC 3), ([0xCB, 0xDA], .setD 3), ([0xCB, 0xDB], .setE 3),
     ([0xCB, 0xDC], .setH 3), ([0xCB, 0xDD], .setL 3), ([0xCB, 0xDE], .setMemHl 3), ([0xCB, 0xDF], .setA 3)] = true := by decide

/-- Second bytes 0xE0 to 0xFF after 0xCB: SET, bits 4 to 7 (30_encoding.md R96). -/
theorem test_decode_secondary_E0 : readAs
    [([0xCB, 0xE0], .setB 4), ([0xCB, 0xE1], .setC 4), ([0xCB, 0xE2], .setD 4), ([0xCB, 0xE3], .setE 4),
     ([0xCB, 0xE4], .setH 4), ([0xCB, 0xE5], .setL 4), ([0xCB, 0xE6], .setMemHl 4), ([0xCB, 0xE7], .setA 4),
     ([0xCB, 0xE8], .setB 5), ([0xCB, 0xE9], .setC 5), ([0xCB, 0xEA], .setD 5), ([0xCB, 0xEB], .setE 5),
     ([0xCB, 0xEC], .setH 5), ([0xCB, 0xED], .setL 5), ([0xCB, 0xEE], .setMemHl 5), ([0xCB, 0xEF], .setA 5),
     ([0xCB, 0xF0], .setB 6), ([0xCB, 0xF1], .setC 6), ([0xCB, 0xF2], .setD 6), ([0xCB, 0xF3], .setE 6),
     ([0xCB, 0xF4], .setH 6), ([0xCB, 0xF5], .setL 6), ([0xCB, 0xF6], .setMemHl 6), ([0xCB, 0xF7], .setA 6),
     ([0xCB, 0xF8], .setB 7), ([0xCB, 0xF9], .setC 7), ([0xCB, 0xFA], .setD 7), ([0xCB, 0xFB], .setE 7),
     ([0xCB, 0xFC], .setH 7), ([0xCB, 0xFD], .setL 7), ([0xCB, 0xFE], .setMemHl 7), ([0xCB, 0xFF], .setA 7)] = true := by decide

theorem test_decode_rejects_missing_operands :
    (match decode [] with | .error .noOpcode => true | _ => false) = true
      ∧ (match decode [0x06] with | .error .missingOperand => true | _ => false) = true
      ∧ (match decode [0xC3, 0x50] with | .error .missingOperand => true | _ => false) = true
      ∧ (match decode [0xCB] with | .error .missingOperand => true | _ => false) = true := by decide

theorem test_table_words :
    decodeTableWord 8 0x3E = some (.ldAD8 0) ∧ decodeTableWord 16 0xCB7E = some (.bitMemHl 7)
      ∧ decodeTableWord 16 0xCB37 = some .swapA ∧ decodeTableWord 8 0xC3 = some (.jpA16 0) := by decide

theorem test_table_word_runs_next : steppedTo (State.reset.withFetchWord 8 0x3C) (fun t => t.cpu.a = 0x02 ∧ t.cpu.pc = 0x0101) := by
  decide

/-! ## Single steps: the spec's test vectors -/

/-- `LD B,C`, vector L1 of 95_test_vectors.md (R121). -/
theorem test_ld_b_c_L1 : ranTo { loaded [(0x0100, 0x41)] with cpu.c := 0x5A }
    (fun t => t.cpu.b = 0x5A ∧ t.cpu.c = 0x5A ∧ t.cpu.f = 0xB0 ∧ t.cpu.pc = 0x0101 ∧ t.cpu.cycles = 1) := by decide

/-- `LD B,d8`, vector L3 of 95_test_vectors.md (R122). -/
theorem test_ld_b_d8_L3 : ranTo (loaded [(0x0100, 0x06), (0x0101, 0xAB)])
    (fun t => t.cpu.b = 0xAB ∧ t.cpu.pc = 0x0102 ∧ t.cpu.cycles = 2) := by decide

/-- `LD A,(HL)`, vector L4 of 95_test_vectors.md (R123). -/
theorem test_ld_a_at_hl_L4 : ranTo { loaded [(0x0100, 0x7E), (0xC123, 0x9C)] with cpu.h := 0xC1, cpu.l := 0x23 }
    (fun t => t.cpu.a = 0x9C ∧ t.cpu.pc = 0x0101 ∧ t.cpu.cycles = 2) := by decide

/-- `LD (HL),H`, vector L6 of 95_test_vectors.md (R124). -/
theorem test_ld_at_hl_h_L6 : ranTo { loaded [(0x0100, 0x74)] with cpu.h := 0xC1, cpu.l := 0xC1 }
    (fun t => t.mem.read 0xC1C1 = 0xC1 ∧ t.cpu.pc = 0x0101 ∧ t.cpu.cycles = 2) := by decide

/-- `LD (HL),d8`, vector L7 of 95_test_vectors.md (R125). -/
theorem test_ld_at_hl_d8_L7 : ranTo { loaded [(0x0100, 0x36), (0x0101, 0x99)] with cpu.h := 0xFF, cpu.l := 0x80 }
    (fun t => t.mem.read 0xFF80 = 0x99 ∧ t.cpu.pc = 0x0102 ∧ t.cpu.cycles = 3) := by decide

/-- `LD A,(BC)`, vector L8 of 95_test_vectors.md (R126). -/
theorem test_ld_a_at_bc_L8 : ranTo { loaded [(0x0100, 0x0A)] with cpu.b := 0x01, cpu.c := 0x00 }
    (fun t => t.cpu.a = 0x0A ∧ t.cpu.pc = 0x0101 ∧ t.cpu.cycles = 2) := by decide

/-- `LD A,(DE)`, vector L9 of 95_test_vectors.md (R127). -/
theorem test_ld_a_at_de_L9 : ranTo { loaded [(0x0100, 0x1A)] with cpu.d := 0xE0, cpu.e := 0x00, cpu.a := 0x00 }
    (fun t => t.cpu.a = 0xFF ∧ t.cpu.pc = 0x0101 ∧ t.cpu.cycles = 2) := by decide

/-- `LD (BC),A`, vector L10 of 95_test_vectors.md (R128). -/
theorem test_ld_at_bc_a_L10 : ranTo { loaded [(0x0100, 0x02)] with cpu.b := 0xC0, cpu.c := 0x00, cpu.a := 0x3C }
    (fun t => t.mem.read 0xC000 = 0x3C ∧ t.cpu.pc = 0x0101 ∧ t.cpu.cycles = 2) := by decide

/-- `LD (DE),A`, vector L11 of 95_test_vectors.md (R129). -/
theorem test_ld_at_de_a_L11 : ranTo { loaded [(0x0100, 0x12)] with cpu.d := 0x00, cpu.e := 0x00, cpu.a := 0x3C }
    (fun t => t.mem.read 0x0000 = 0x00 ∧ t.cpu.pc = 0x0101 ∧ t.cpu.cycles = 2) := by decide

/-- `LD (HL+),A`, vector L13 of 95_test_vectors.md (R136). -/
theorem test_ld_at_hl_inc_a_L13 : ranTo { loaded [(0x0100, 0x22)] with cpu.h := 0xFF, cpu.l := 0xFF, cpu.a := 0x15 }
    (fun t => t.hl = 0x0000 ∧ t.bus.ieReg = 0x15 ∧ t.cpu.pc = 0x0101 ∧ t.cpu.cycles = 2) := by decide

/-- `LD A,(HL+)`, vector L14 of 95_test_vectors.md (R138). -/
theorem test_ld_a_at_hl_inc_L14 : ranTo { loaded [(0x0100, 0x2A), (0xC010, 0x77)] with cpu.h := 0xC0, cpu.l := 0x10 }
    (fun t => t.cpu.a = 0x77 ∧ t.hl = 0xC011 ∧ t.cpu.pc = 0x0101 ∧ t.cpu.cycles = 2) := by decide

/-- `LD (HL-),A`, vector L15 of 95_test_vectors.md (R137). -/
theorem test_ld_at_hl_dec_a_L15 : ranTo { loaded [(0x0100, 0x32)] with cpu.h := 0xC0, cpu.l := 0x00, cpu.a := 0x22 }
    (fun t => t.mem.read 0xC000 = 0x22 ∧ t.hl = 0xBFFF ∧ t.cpu.pc = 0x0101 ∧ t.cpu.cycles = 2) := by decide

/-- `LD A,(HL-)`, vector L16 of 95_test_vectors.md (R139). -/
theorem test_ld_a_at_hl_dec_L16 : ranTo { loaded [(0x0000, 0xC3), (0x0100, 0x3A)] with cpu.h := 0x00, cpu.l := 0x00 }
    (fun t => t.cpu.a = 0xC3 ∧ t.hl = 0xFFFF ∧ t.cpu.pc = 0x0101 ∧ t.cpu.cycles = 2) := by decide

/-- `LD (a16),A`, vector L17 of 95_test_vectors.md (R131). -/
theorem test_ld_at_a16_a_L17 : ranTo { loaded [(0x0100, 0xEA), (0x0101, 0x34), (0x0102, 0xC2)] with cpu.a := 0xEE }
    (fun t => t.mem.read 0xC234 = 0xEE ∧ t.cpu.pc = 0x0103 ∧ t.cpu.cycles = 4) := by decide

/-- `LD A,(a16)`, vector L18 of 95_test_vectors.md (R130). -/
theorem test_ld_a_at_a16_L18 : ranTo { loaded [(0x0100, 0xFA), (0x0102, 0xFE), (0xFE00, 0x55)] with cpu.a := 0x00 }
    (fun t => t.cpu.a = 0x55 ∧ t.cpu.pc = 0x0103 ∧ t.cpu.cycles = 4) := by decide

/-- `LDH (a8),A`, vector L20 of 95_test_vectors.md (R133). -/
theorem test_ldh_at_a8_a_L20 : ranTo { loaded [(0x0100, 0xE0), (0x0101, 0x80)] with cpu.a := 0x5F }
    (fun t => t.mem.read 0xFF80 = 0x5F ∧ t.cpu.pc = 0x0102 ∧ t.cpu.cycles = 3) := by decide

/-- `LDH A,(a8)`, vector L21 of 95_test_vectors.md (R132). -/
theorem test_ldh_a_at_a8_L21 : ranTo { loaded [(0x0100, 0xF0), (0x0101, 0x44)] with ppu.ly := 0x12 }
    (fun t => t.cpu.a = 0x12 ∧ t.cpu.pc = 0x0102 ∧ t.cpu.cycles = 3) := by decide

/-- `LD (C),A`, vector L23 of 95_test_vectors.md (R135). -/
theorem test_ld_at_c_a_L23 : ranTo { loaded [(0x0100, 0xE2)] with cpu.c := 0x06, cpu.a := 0xAB }
    (fun t => t.timer.tma = 0xAB ∧ t.cpu.pc = 0x0101 ∧ t.cpu.cycles = 2) := by decide

/-- `LD A,(C)`, vector L24 of 95_test_vectors.md (R134). -/
theorem test_ld_a_at_c_L24 : ranTo { loaded [(0x0100, 0xF2)] with cpu.c := 0x41, cpu.a := 0x00 }
    (fun t => t.cpu.a = 0x81 ∧ t.cpu.pc = 0x0101 ∧ t.cpu.cycles = 2) := by decide

/-- `LD BC,d16`, vector W1 of 95_test_vectors.md (R150). -/
theorem test_ld_bc_d16_W1 : ranTo (loaded [(0x0100, 0x01), (0x0101, 0x34), (0x0102, 0x12)])
    (fun t => t.bc = 0x1234 ∧ t.cpu.b = 0x12 ∧ t.cpu.c = 0x34 ∧ t.cpu.pc = 0x0103 ∧ t.cpu.cycles = 3) := by decide

/-- `LD (a16),SP`, vector W4 of 95_test_vectors.md (R151). -/
theorem test_ld_at_a16_sp_W4 : ranTo { loaded [(0x0100, 0x08), (0x0101, 0xFF), (0x0102, 0xFF)] with cpu.sp := 0x1F2E }
    (fun t => t.bus.ieReg = 0x2E ∧ t.mem.read 0x0000 = 0x00 ∧ t.cpu.pc = 0x0103 ∧ t.cpu.cycles = 5) := by decide

/-- `LD SP,HL`, vector W5 of 95_test_vectors.md (R152). -/
theorem test_ld_sp_hl_W5 : ranTo { loaded [(0x0100, 0xF9)] with cpu.h := 0xC0, cpu.l := 0xDE }
    (fun t => t.cpu.sp = 0xC0DE ∧ t.cpu.pc = 0x0101 ∧ t.cpu.cycles = 2) := by decide

/-- `LD HL,SP+e8`, vector W6 of 95_test_vectors.md (R153). -/
theorem test_ld_hl_sp_e8_W6 : ranTo { loaded [(0x0100, 0xF8), (0x0101, 0x08)] with cpu.sp := 0xFFF8, cpu.f := 0xF0 }
    (fun t => t.hl = 0x0000 ∧ t.cpu.f = 0x30 ∧ t.cpu.sp = 0xFFF8 ∧ t.cpu.pc = 0x0102 ∧ t.cpu.cycles = 3) := by decide

/-- `LD HL,SP+e8`, vector W9 of 95_test_vectors.md (R153). -/
theorem test_ld_hl_sp_e8_W9 : ranTo { loaded [(0x0100, 0xF8), (0x0101, 0x80)] with cpu.sp := 0xD080 }
    (fun t => t.hl = 0xD000 ∧ t.cpu.f = 0x10 ∧ t.cpu.pc = 0x0102 ∧ t.cpu.cycles = 3) := by decide

/-- `PUSH BC`, vector W10 of 95_test_vectors.md (R154). -/
theorem test_push_bc_W10 : ranTo { loaded [(0x0100, 0xC5)] with cpu.sp := 0xD000, cpu.b := 0x12, cpu.c := 0x34 }
    (fun t => t.cpu.sp = 0xCFFE ∧ t.mem.read 0xCFFF = 0x12 ∧ t.mem.read 0xCFFE = 0x34 ∧ t.cpu.pc = 0x0101 ∧ t.cpu.cycles = 4) := by decide

/-- `PUSH BC`, vector W12 of 95_test_vectors.md (R154). -/
theorem test_push_bc_W12 : ranTo { loaded [(0x0100, 0xC5)] with cpu.sp := 0x0000, cpu.b := 0x12, cpu.c := 0x34 }
    (fun t => t.cpu.sp = 0xFFFE ∧ t.bus.ieReg = 0x12 ∧ t.mem.read 0xFFFE = 0x34 ∧ t.cpu.pc = 0x0101 ∧ t.cpu.cycles = 4) := by decide

/-- `POP AF`, vector W15 of 95_test_vectors.md (R156). -/
theorem test_pop_af_W15 : ranTo { loaded [(0x0100, 0xF1), (0xC000, 0xFF), (0xC001, 0x12)] with cpu.sp := 0xC000 }
    (fun t => t.cpu.a = 0x12 ∧ t.cpu.f = 0xF0 ∧ t.af = 0x12F0 ∧ t.cpu.sp = 0xC002 ∧ t.cpu.pc = 0x0101 ∧ t.cpu.cycles = 3) := by decide

/-- `POP HL`, vector W17 of 95_test_vectors.md (R155). -/
theorem test_pop_hl_W17 : ranTo { loaded [(0x0000, 0xC3), (0x0100, 0xE1)] with cpu.sp := 0xFFFF, bus.ieReg := 0x1F }
    (fun t => t.hl = 0xC31F ∧ t.cpu.sp = 0x0001 ∧ t.cpu.pc = 0x0101 ∧ t.cpu.cycles = 3) := by decide

/-- `ADD A,B`, vector A1 of 95_test_vectors.md (R172). -/
theorem test_add_a_b_A1 : ranTo { loaded [(0x0100, 0x80)] with cpu.a := 0x01, cpu.b := 0x0F, cpu.f := 0x00 }
    (fun t => t.cpu.a = 0x10 ∧ t.cpu.f = 0x20 ∧ t.cpu.pc = 0x0101 ∧ t.cpu.cycles = 1) := by decide

/-- `ADD A,B`, vector A4 of 95_test_vectors.md (R172). -/
theorem test_add_a_b_A4 : ranTo { loaded [(0x0100, 0x80)] with cpu.a := 0xFF, cpu.b := 0x01, cpu.f := 0x00 }
    (fun t => t.cpu.a = 0x00 ∧ t.cpu.f = 0xB0 ∧ t.cpu.pc = 0x0101 ∧ t.cpu.cycles = 1) := by decide

/-- `ADC A,B`, vector A9 of 95_test_vectors.md (R173). -/
theorem test_adc_a_b_A9 : ranTo { loaded [(0x0100, 0x88)] with cpu.a := 0xFF, cpu.b := 0xFF, cpu.f := 0x10 }
    (fun t => t.cpu.a = 0xFF ∧ t.cpu.f = 0x30 ∧ t.cpu.pc = 0x0101 ∧ t.cpu.cycles = 1) := by decide

/-- `ADC A,d8`, vector A11 of 95_test_vectors.md (R173). -/
theorem test_adc_a_d8_A11 : ranTo { loaded [(0x0100, 0xCE), (0x0101, 0x0F)] with cpu.a := 0x00, cpu.f := 0x10 }
    (fun t => t.cpu.a = 0x10 ∧ t.cpu.f = 0x20 ∧ t.cpu.pc = 0x0102 ∧ t.cpu.cycles = 2) := by decide

/-- `SUB B`, vector A13 of 95_test_vectors.md (R174). -/
theorem test_sub_b_A13 : ranTo { loaded [(0x0100, 0x90)] with cpu.a := 0x10, cpu.b := 0x01, cpu.f := 0x00 }
    (fun t => t.cpu.a = 0x0F ∧ t.cpu.f = 0x60 ∧ t.cpu.pc = 0x0101 ∧ t.cpu.cycles = 1) := by decide

/-- `SBC A,B`, vector A17 of 95_test_vectors.md (R175). -/
theorem test_sbc_a_b_A17 : ranTo { loaded [(0x0100, 0x98)] with cpu.a := 0x00, cpu.b := 0xFF, cpu.f := 0x10 }
    (fun t => t.cpu.a = 0x00 ∧ t.cpu.f = 0xF0 ∧ t.cpu.pc = 0x0101 ∧ t.cpu.cycles = 1) := by decide

/-- `SBC A,A`, vector A20 of 95_test_vectors.md (R175). -/
theorem test_sbc_a_a_A20 : ranTo { loaded [(0x0100, 0x9F)] with cpu.a := 0x77, cpu.f := 0x10 }
    (fun t => t.cpu.a = 0xFF ∧ t.cpu.f = 0x70 ∧ t.cpu.pc = 0x0101 ∧ t.cpu.cycles = 1) := by decide

/-- `AND B`, vector A23 of 95_test_vectors.md (R176). -/
theorem test_and_b_A23 : ranTo { loaded [(0x0100, 0xA0)] with cpu.a := 0xF0, cpu.b := 0x0F, cpu.f := 0x10 }
    (fun t => t.cpu.a = 0x00 ∧ t.cpu.f = 0xA0 ∧ t.cpu.pc = 0x0101 ∧ t.cpu.cycles = 1) := by decide

/-- `AND d8`, vector A25 of 95_test_vectors.md (R176). -/
theorem test_and_d8_A25 : ranTo { loaded [(0x0100, 0xE6), (0x0101, 0x18)] with cpu.a := 0x3C, cpu.f := 0x00 }
    (fun t => t.cpu.a = 0x18 ∧ t.cpu.f = 0x20 ∧ t.cpu.pc = 0x0102 ∧ t.cpu.cycles = 2) := by decide

/-- `XOR B`, vector A27 of 95_test_vectors.md (R177). -/
theorem test_xor_b_A27 : ranTo { loaded [(0x0100, 0xA8)] with cpu.a := 0xFF, cpu.b := 0x0F, cpu.f := 0xF0 }
    (fun t => t.cpu.a = 0xF0 ∧ t.cpu.f = 0x00 ∧ t.cpu.pc = 0x0101 ∧ t.cpu.cycles = 1) := by decide

/-- `OR (HL)`, vector A29 of 95_test_vectors.md (R178). -/
theorem test_or_at_hl_A29 : ranTo { loaded [(0x0100, 0xB6), (0xC000, 0x0A)] with cpu.a := 0x50, cpu.h := 0xC0, cpu.l := 0x00, cpu.f := 0xF0 }
    (fun t => t.cpu.a = 0x5A ∧ t.cpu.f = 0x00 ∧ t.cpu.pc = 0x0101 ∧ t.cpu.cycles = 2) := by decide

/-- `CP B`, vector A30 of 95_test_vectors.md (R179). -/
theorem test_cp_b_A30 : ranTo { loaded [(0x0100, 0xB8)] with cpu.a := 0x3C, cpu.b := 0x40, cpu.f := 0x00 }
    (fun t => t.cpu.a = 0x3C ∧ t.cpu.f = 0x50 ∧ t.cpu.pc = 0x0101 ∧ t.cpu.cycles = 1) := by decide

/-- `CP d8`, vector A32 of 95_test_vectors.md (R179). -/
theorem test_cp_d8_A32 : ranTo { loaded [(0x0100, 0xFE), (0x0101, 0x2F)] with cpu.a := 0x3C, cpu.f := 0x00 }
    (fun t => t.cpu.a = 0x3C ∧ t.cpu.f = 0x60 ∧ t.cpu.pc = 0x0102 ∧ t.cpu.cycles = 2) := by decide

/-- `INC B`, vector A33 of 95_test_vectors.md (R180). -/
theorem test_inc_b_A33 : ranTo { loaded [(0x0100, 0x04)] with cpu.b := 0xFF, cpu.f := 0x10 }
    (fun t => t.cpu.b = 0x00 ∧ t.cpu.f = 0xB0 ∧ t.cpu.pc = 0x0101 ∧ t.cpu.cycles = 1) := by decide

/-- `DEC B`, vector A36 of 95_test_vectors.md (R182). -/
theorem test_dec_b_A36 : ranTo { loaded [(0x0100, 0x05)] with cpu.b := 0x00, cpu.f := 0x00 }
    (fun t => t.cpu.b = 0xFF ∧ t.cpu.f = 0x60 ∧ t.cpu.pc = 0x0101 ∧ t.cpu.cycles = 1) := by decide

/-- `INC (HL)`, vector A39 of 95_test_vectors.md (R181). -/
theorem test_inc_at_hl_A39 : ranTo { loaded [(0x0100, 0x34), (0xC000, 0xFF)] with cpu.h := 0xC0, cpu.l := 0x00, cpu.f := 0x00 }
    (fun t => t.mem.read 0xC000 = 0x00 ∧ t.cpu.f = 0xA0 ∧ t.cpu.pc = 0x0101 ∧ t.cpu.cycles = 3) := by decide

/-- `DEC (HL)`, vector A40 of 95_test_vectors.md (R183). -/
theorem test_dec_at_hl_A40 : ranTo { loaded [(0x0100, 0x35)] with cpu.h := 0xC0, cpu.l := 0x00, cpu.f := 0x10 }
    (fun t => t.mem.read 0xC000 = 0xFF ∧ t.cpu.f = 0x70 ∧ t.cpu.pc = 0x0101 ∧ t.cpu.cycles = 3) := by decide

/-- `ADD HL,BC`, vector X1 of 95_test_vectors.md (R200). -/
theorem test_add_hl_bc_X1 : ranTo { loaded [(0x0100, 0x09)] with cpu.h := 0x0F, cpu.l := 0xFF, cpu.b := 0x00, cpu.c := 0x01, cpu.f := 0x80 }
    (fun t => t.hl = 0x1000 ∧ t.cpu.f = 0xA0 ∧ t.cpu.pc = 0x0101 ∧ t.cpu.cycles = 2) := by decide

/-- `ADD HL,BC`, vector X2 of 95_test_vectors.md (R200). -/
theorem test_add_hl_bc_X2 : ranTo { loaded [(0x0100, 0x09)] with cpu.h := 0x80, cpu.l := 0x00, cpu.b := 0x80, cpu.c := 0x00, cpu.f := 0x00 }
    (fun t => t.hl = 0x0000 ∧ t.cpu.f = 0x10 ∧ t.cpu.pc = 0x0101 ∧ t.cpu.cycles = 2) := by decide

/-- `ADD HL,DE`, vector X5 of 95_test_vectors.md (R200). -/
theorem test_add_hl_de_X5 : ranTo { loaded [(0x0100, 0x19)] with cpu.h := 0x00, cpu.l := 0xFF, cpu.d := 0x00, cpu.e := 0x01, cpu.f := 0x70 }
    (fun t => t.hl = 0x0100 ∧ t.cpu.f = 0x00 ∧ t.cpu.pc = 0x0101 ∧ t.cpu.cycles = 2) := by decide

/-- `INC BC`, vector X6 of 95_test_vectors.md (R201). -/
theorem test_inc_bc_X6 : ranTo { loaded [(0x0100, 0x03)] with cpu.b := 0xFF, cpu.c := 0xFF, cpu.f := 0xF0 }
    (fun t => t.bc = 0x0000 ∧ t.cpu.f = 0xF0 ∧ t.cpu.pc = 0x0101 ∧ t.cpu.cycles = 2) := by decide

/-- `DEC SP`, vector X8 of 95_test_vectors.md (R202). -/
theorem test_dec_sp_X8 : ranTo { loaded [(0x0100, 0x3B)] with cpu.sp := 0x0000, cpu.f := 0x00 }
    (fun t => t.cpu.sp = 0xFFFF ∧ t.cpu.f = 0x00 ∧ t.cpu.pc = 0x0101 ∧ t.cpu.cycles = 2) := by decide

/-- `ADD SP,e8`, vector X11 of 95_test_vectors.md (R203). -/
theorem test_add_sp_e8_X11 : ranTo { loaded [(0x0100, 0xE8), (0x0101, 0xFF)] with cpu.sp := 0x0001, cpu.f := 0x00 }
    (fun t => t.cpu.sp = 0x0000 ∧ t.cpu.f = 0x30 ∧ t.cpu.pc = 0x0102 ∧ t.cpu.cycles = 4) := by decide

/-- `ADD SP,e8`, vector X14 of 95_test_vectors.md (R203). -/
theorem test_add_sp_e8_X14 : ranTo { loaded [(0x0100, 0xE8), (0x0101, 0x7F)] with cpu.sp := 0xFFFE, cpu.f := 0x00 }
    (fun t => t.cpu.sp = 0x007D ∧ t.cpu.f = 0x30 ∧ t.cpu.pc = 0x0102 ∧ t.cpu.cycles = 4) := by decide

/-- `RLCA`, vector G1 of 95_test_vectors.md (R210). -/
theorem test_rlca_G1 : ranTo { loaded [(0x0100, 0x07)] with cpu.a := 0x80, cpu.f := 0x00 }
    (fun t => t.cpu.a = 0x01 ∧ t.cpu.f = 0x10 ∧ t.cpu.pc = 0x0101 ∧ t.cpu.cycles = 1) := by decide

/-- `RLCA`, vector G2 of 95_test_vectors.md (R210). -/
theorem test_rlca_G2 : ranTo { loaded [(0x0100, 0x07)] with cpu.a := 0x00, cpu.f := 0xF0 }
    (fun t => t.cpu.a = 0x00 ∧ t.cpu.f = 0x00 ∧ t.cpu.pc = 0x0101 ∧ t.cpu.cycles = 1) := by decide

/-- `RRCA`, vector G5 of 95_test_vectors.md (R211). -/
theorem test_rrca_G5 : ranTo { loaded [(0x0100, 0x0F)] with cpu.a := 0xAA, cpu.f := 0xF0 }
    (fun t => t.cpu.a = 0x55 ∧ t.cpu.f = 0x00 ∧ t.cpu.pc = 0x0101 ∧ t.cpu.cycles = 1) := by decide

/-- `RLA`, vector G6 of 95_test_vectors.md (R212). -/
theorem test_rla_G6 : ranTo { loaded [(0x0100, 0x17)] with cpu.a := 0x80, cpu.f := 0x00 }
    (fun t => t.cpu.a = 0x00 ∧ t.cpu.f = 0x10 ∧ t.cpu.pc = 0x0101 ∧ t.cpu.cycles = 1) := by decide

/-- `RRA`, vector G9 of 95_test_vectors.md (R213). -/
theorem test_rra_G9 : ranTo { loaded [(0x0100, 0x1F)] with cpu.a := 0x00, cpu.f := 0x10 }
    (fun t => t.cpu.a = 0x80 ∧ t.cpu.f = 0x00 ∧ t.cpu.pc = 0x0101 ∧ t.cpu.cycles = 1) := by decide

/-- `CPL`, vector G10 of 95_test_vectors.md (R215). -/
theorem test_cpl_G10 : ranTo { loaded [(0x0100, 0x2F)] with cpu.a := 0x35, cpu.f := 0x00 }
    (fun t => t.cpu.a = 0xCA ∧ t.cpu.f = 0x60 ∧ t.cpu.pc = 0x0101 ∧ t.cpu.cycles = 1) := by decide

/-- `SCF`, vector G12 of 95_test_vectors.md (R216). -/
theorem test_scf_G12 : ranTo { loaded [(0x0100, 0x37)] with cpu.a := 0x00, cpu.f := 0x60 }
    (fun t => t.cpu.a = 0x00 ∧ t.cpu.f = 0x10 ∧ t.cpu.pc = 0x0101 ∧ t.cpu.cycles = 1) := by decide

/-- `CCF`, vector G14 of 95_test_vectors.md (R217). -/
theorem test_ccf_G14 : ranTo { loaded [(0x0100, 0x3F)] with cpu.a := 0x00, cpu.f := 0x70 }
    (fun t => t.cpu.a = 0x00 ∧ t.cpu.f = 0x00 ∧ t.cpu.pc = 0x0101 ∧ t.cpu.cycles = 1) := by decide

/-- `DAA`, vector Q1 of 95_test_vectors.md (R214). -/
theorem test_daa_Q1 : ranTo { loaded [(0x0100, 0x27)] with cpu.a := 0x10, cpu.f := 0x20 }
    (fun t => t.cpu.a = 0x16 ∧ t.cpu.f = 0x00 ∧ t.cpu.pc = 0x0101 ∧ t.cpu.cycles = 1) := by decide

/-- `DAA`, vector Q12 of 95_test_vectors.md (R214). -/
theorem test_daa_Q12 : ranTo { loaded [(0x0100, 0x27)] with cpu.a := 0x4B, cpu.f := 0x60 }
    (fun t => t.cpu.a = 0x45 ∧ t.cpu.f = 0x40 ∧ t.cpu.pc = 0x0101 ∧ t.cpu.cycles = 1) := by decide

/-- `JP a16`, vector J1 of 95_test_vectors.md (R220). -/
theorem test_jp_a16_J1 : ranTo (loaded [(0x0100, 0xC3), (0x0101, 0x50), (0x0102, 0x01)])
    (fun t => t.cpu.pc = 0x0150 ∧ t.cpu.cycles = 4) := by decide

/-- `JP NZ,a16`, vector J2 of 95_test_vectors.md (R221). -/
theorem test_jp_nz_a16_J2 : ranTo { loaded [(0x0100, 0xC2), (0x0101, 0x50), (0x0102, 0x01)] with cpu.f := 0x80 }
    (fun t => t.cpu.pc = 0x0103 ∧ t.cpu.cycles = 3) := by decide

/-- `JP NZ,a16`, vector J3 of 95_test_vectors.md (R221). -/
theorem test_jp_nz_a16_J3 : ranTo { loaded [(0x0100, 0xC2), (0x0101, 0x50), (0x0102, 0x01)] with cpu.f := 0x00 }
    (fun t => t.cpu.pc = 0x0150 ∧ t.cpu.cycles = 4) := by decide

/-- `JP HL`, vector J7 of 95_test_vectors.md (R222). -/
theorem test_jp_hl_J7 : ranTo { loaded [(0x0100, 0xE9)] with cpu.h := 0xC0, cpu.l := 0x00 }
    (fun t => t.cpu.pc = 0xC000 ∧ t.cpu.cycles = 1) := by decide

/-- `JR e8`, vector J11 of 95_test_vectors.md (R223). -/
theorem test_jr_e8_J11 : ranTo (loaded [(0x0100, 0x18), (0x0101, 0x80)])
    (fun t => t.cpu.pc = 0x0082 ∧ t.cpu.cycles = 3) := by decide

/-- `JR NZ,e8`, vector J13 of 95_test_vectors.md (R224). -/
theorem test_jr_nz_e8_J13 : ranTo { loaded [(0x0100, 0x20), (0x0101, 0x10)] with cpu.f := 0x80 }
    (fun t => t.cpu.pc = 0x0102 ∧ t.cpu.cycles = 2) := by decide

/-- `JR Z,e8`, vector J15 of 95_test_vectors.md (R224). -/
theorem test_jr_z_e8_J15 : ranTo { loaded [(0x0100, 0x28), (0x0101, 0xFC)] with cpu.f := 0x80 }
    (fun t => t.cpu.pc = 0x00FE ∧ t.cpu.cycles = 3) := by decide

/-- `CALL a16`, vector J18 of 95_test_vectors.md (R225). -/
theorem test_call_a16_J18 : ranTo { loaded [(0x0100, 0xCD), (0x0101, 0x34), (0x0102, 0x12)] with cpu.sp := 0xD000 }
    (fun t => t.cpu.pc = 0x1234 ∧ t.cpu.sp = 0xCFFE ∧ t.mem.read 0xCFFF = 0x01 ∧ t.mem.read 0xCFFE = 0x03 ∧ t.cpu.cycles = 6) := by decide

/-- `CALL NZ,a16`, vector J19 of 95_test_vectors.md (R226). -/
theorem test_call_nz_a16_J19 : ranTo { loaded [(0x0100, 0xC4), (0x0101, 0x34), (0x0102, 0x12)] with cpu.sp := 0xD000, cpu.f := 0x80 }
    (fun t => t.cpu.pc = 0x0103 ∧ t.cpu.sp = 0xD000 ∧ t.mem.read 0xCFFF = 0x00 ∧ t.mem.read 0xCFFE = 0x00 ∧ t.cpu.cycles = 3) := by decide

/-- `RET`, vector J23 of 95_test_vectors.md (R227). -/
theorem test_ret_J23 : ranTo { loaded [(0x0100, 0xC9), (0xC000, 0x03), (0xC001, 0x01)] with cpu.sp := 0xC000 }
    (fun t => t.cpu.pc = 0x0103 ∧ t.cpu.sp = 0xC002 ∧ t.cpu.cycles = 4) := by decide

/-- `RET NZ`, vector J24 of 95_test_vectors.md (R228). -/
theorem test_ret_nz_J24 : ranTo { loaded [(0x0100, 0xC0), (0xC000, 0x03), (0xC001, 0x01)] with cpu.sp := 0xC000, cpu.f := 0x00 }
    (fun t => t.cpu.pc = 0x0103 ∧ t.cpu.sp = 0xC002 ∧ t.cpu.cycles = 5) := by decide

/-- `RET NZ`, vector J25 of 95_test_vectors.md (R228). -/
theorem test_ret_nz_J25 : ranTo { loaded [(0x0100, 0xC0), (0xC000, 0x03), (0xC001, 0x01)] with cpu.sp := 0xC000, cpu.f := 0x80 }
    (fun t => t.cpu.pc = 0x0101 ∧ t.cpu.sp = 0xC000 ∧ t.cpu.cycles = 2) := by decide

/-- `RETI`, vector J27 of 95_test_vectors.md (R229). -/
theorem test_reti_J27 : ranTo { loaded [(0x0100, 0xD9), (0xC000, 0x03), (0xC001, 0x01)] with cpu.sp := 0xC000, cpu.ime := false }
    (fun t => t.cpu.pc = 0x0103 ∧ t.cpu.sp = 0xC002 ∧ t.cpu.ime = true ∧ t.cpu.imeDelay = 0 ∧ t.cpu.cycles = 4) := by decide

/-- `RST 28`, vector J30 of 95_test_vectors.md (R230). -/
theorem test_rst_28_J30 : ranTo { loaded [(0x0100, 0xEF)] with cpu.sp := 0xD000 }
    (fun t => t.cpu.pc = 0x0028 ∧ t.cpu.sp = 0xCFFE ∧ t.cpu.cycles = 4) := by decide

/-- `RLC B`, vector K1 of 95_test_vectors.md (R241). -/
theorem test_rlc_b_K1 : ranTo { loaded [(0x0100, 0xCB)] with cpu.b := 0x80, cpu.f := 0x00 }
    (fun t => t.cpu.b = 0x01 ∧ t.cpu.f = 0x10 ∧ t.cpu.pc = 0x0102 ∧ t.cpu.cycles = 2) := by decide

/-- `RRC C`, vector K4 of 95_test_vectors.md (R242). -/
theorem test_rrc_c_K4 : ranTo { loaded [(0x0100, 0xCB), (0x0101, 0x09)] with cpu.c := 0x01, cpu.f := 0x00 }
    (fun t => t.cpu.c = 0x80 ∧ t.cpu.f = 0x10 ∧ t.cpu.pc = 0x0102 ∧ t.cpu.cycles = 2) := by decide

/-- `RL D`, vector K6 of 95_test_vectors.md (R243). -/
theorem test_rl_d_K6 : ranTo { loaded [(0x0100, 0xCB), (0x0101, 0x12)] with cpu.d := 0x40, cpu.f := 0x10 }
    (fun t => t.cpu.d = 0x81 ∧ t.cpu.f = 0x00 ∧ t.cpu.pc = 0x0102 ∧ t.cpu.cycles = 2) := by decide

/-- `RR E`, vector K8 of 95_test_vectors.md (R244). -/
theorem test_rr_e_K8 : ranTo { loaded [(0x0100, 0xCB), (0x0101, 0x1B)] with cpu.e := 0x00, cpu.f := 0x10 }
    (fun t => t.cpu.e = 0x80 ∧ t.cpu.f = 0x00 ∧ t.cpu.pc = 0x0102 ∧ t.cpu.cycles = 2) := by decide

/-- `SLA H`, vector K10 of 95_test_vectors.md (R245). -/
theorem test_sla_h_K10 : ranTo { loaded [(0x0100, 0xCB), (0x0101, 0x24)] with cpu.h := 0x55, cpu.f := 0x10 }
    (fun t => t.cpu.h = 0xAA ∧ t.cpu.f = 0x00 ∧ t.cpu.pc = 0x0102 ∧ t.cpu.cycles = 2) := by decide

/-- `SRA L`, vector K11 of 95_test_vectors.md (R246). -/
theorem test_sra_l_K11 : ranTo { loaded [(0x0100, 0xCB), (0x0101, 0x2D)] with cpu.l := 0x80, cpu.f := 0x00 }
    (fun t => t.cpu.l = 0xC0 ∧ t.cpu.f = 0x00 ∧ t.cpu.pc = 0x0102 ∧ t.cpu.cycles = 2) := by decide

/-- `SWAP A`, vector K14 of 95_test_vectors.md (R247). -/
theorem test_swap_a_K14 : ranTo { loaded [(0x0100, 0xCB), (0x0101, 0x37)] with cpu.a := 0xF1, cpu.f := 0xF0 }
    (fun t => t.cpu.a = 0x1F ∧ t.cpu.f = 0x00 ∧ t.cpu.pc = 0x0102 ∧ t.cpu.cycles = 2) := by decide

/-- `SRL A`, vector K16 of 95_test_vectors.md (R248). -/
theorem test_srl_a_K16 : ranTo { loaded [(0x0100, 0xCB), (0x0101, 0x3F)] with cpu.a := 0x01, cpu.f := 0x00 }
    (fun t => t.cpu.a = 0x00 ∧ t.cpu.f = 0x90 ∧ t.cpu.pc = 0x0102 ∧ t.cpu.cycles = 2) := by decide

/-- `RLC (HL)`, vector K18 of 95_test_vectors.md (R241). -/
theorem test_rlc_at_hl_K18 : ranTo { loaded [(0x0100, 0xCB), (0x0101, 0x06), (0xC000, 0x81)] with cpu.h := 0xC0, cpu.l := 0x00, cpu.f := 0x00 }
    (fun t => t.mem.read 0xC000 = 0x03 ∧ t.cpu.f = 0x10 ∧ t.cpu.pc = 0x0102 ∧ t.cpu.cycles = 4) := by decide

/-- `BIT 7,H`, vector K20 of 95_test_vectors.md (R249). -/
theorem test_bit_7_h_K20 : ranTo { loaded [(0x0100, 0xCB), (0x0101, 0x7C)] with cpu.h := 0x80, cpu.f := 0x10 }
    (fun t => t.cpu.h = 0x80 ∧ t.cpu.f = 0x30 ∧ t.cpu.pc = 0x0102 ∧ t.cpu.cycles = 2) := by decide

/-- `BIT 0,(HL)`, vector K23 of 95_test_vectors.md (R249). -/
theorem test_bit_0_at_hl_K23 : ranTo { loaded [(0x0100, 0xCB), (0x0101, 0x46), (0xC000, 0xFE)] with cpu.h := 0xC0, cpu.l := 0x00, cpu.f := 0x00 }
    (fun t => t.cpu.f = 0xA0 ∧ t.cpu.pc = 0x0102 ∧ t.cpu.cycles = 3) := by decide

/-- `RES 7,(HL)`, vector K26 of 95_test_vectors.md (R250). -/
theorem test_res_7_at_hl_K26 : ranTo { loaded [(0x0100, 0xCB), (0x0101, 0xBE), (0xC000, 0xFF)] with cpu.h := 0xC0, cpu.l := 0x00, cpu.f := 0x00 }
    (fun t => t.mem.read 0xC000 = 0x7F ∧ t.cpu.f = 0x00 ∧ t.cpu.pc = 0x0102 ∧ t.cpu.cycles = 4) := by decide

/-- `SET 0,(HL)`, vector K29 of 95_test_vectors.md (R251). -/
theorem test_set_0_at_hl_K29 : ranTo { loaded [(0x0100, 0xCB), (0x0101, 0xC6)] with cpu.h := 0xC0, cpu.l := 0x00, cpu.f := 0xF0 }
    (fun t => t.mem.read 0xC000 = 0x01 ∧ t.cpu.f = 0xF0 ∧ t.cpu.pc = 0x0102 ∧ t.cpu.cycles = 4) := by decide

/-- `NOP`, vector Y1 of 95_test_vectors.md (R260). -/
theorem test_nop_Y1 : ranTo (loaded [])
    (fun t => t.cpu.pc = 0x0101 ∧ t.cpu.f = 0xB0 ∧ t.cpu.cycles = 1) := by decide

/-- `HALT`, vector Y2 of 95_test_vectors.md (R261). -/
theorem test_halt_Y2 : ranTo (loaded [(0x0100, 0x76)])
    (fun t => t.cpu.pc = 0x0101 ∧ t.cpu.halted = true ∧ t.cpu.cycles = 1) := by decide

/-- `STOP`, vector Y4 of 95_test_vectors.md (R262). -/
theorem test_stop_Y4 : ranTo (loaded [(0x0100, 0x10), (0x0101, 0x3C)])
    (fun t => t.cpu.pc = 0x0102 ∧ t.cpu.a = 0x01 ∧ t.cpu.cycles = 1) := by decide

/-- `DI`, vector Y6 of 95_test_vectors.md (R263). -/
theorem test_di_Y6 : ranTo { loaded [(0x0100, 0xF3)] with cpu.ime := false, cpu.imeDelay := 1 }
    (fun t => t.cpu.pc = 0x0101 ∧ t.cpu.ime = false ∧ t.cpu.imeDelay = 0 ∧ t.cpu.cycles = 1) := by decide

/-- `EI`, vector Y8 of 95_test_vectors.md (R264). -/
theorem test_ei_Y8 : ranTo { loaded [(0x0100, 0xFB)] with cpu.ime := true }
    (fun t => t.cpu.pc = 0x0101 ∧ t.cpu.ime = true ∧ t.cpu.imeDelay = 2 ∧ t.cpu.cycles = 1) := by decide

/-! ## Interrupts, the halted state, the EI delay -/

/-- Trace I1, step 1 (60_exceptions.md R305, R307). -/
theorem test_dispatch_I1 : ranTo { State.reset with cpu.sp := 0xD000, cpu.ime := true, bus.ieReg := 0x1F, bus.ifReg := 0x1F }
    (fun t => t.cpu.pc = 0x0040 ∧ t.cpu.sp = 0xCFFE ∧ t.cpu.ime = false ∧ t.bus.ifReg = 0x1E ∧ t.mem.read 0xCFFF = 0x01
      ∧ t.mem.read 0xCFFE = 0x00 ∧ t.cpu.cycles = 5) := by decide

/-- Trace I2, step 9: the last source. -/
theorem test_dispatch_I2 : ranTo { State.reset with cpu.sp := 0xD000, cpu.ime := true, bus.ieReg := 0x1F, bus.ifReg := 0x10 }
    (fun t => t.cpu.pc = 0x0060 ∧ t.bus.ifReg = 0x00) := by decide

/-- Trace I3, step 2: one instruction runs after EI. -/
theorem test_ei_delay_I3_2 : ranTo { loaded [(0x0101, 0x3C)] with
      cpu.pc := 0x0101, cpu.imeDelay := 2, bus.ieReg := 0x01, bus.ifReg := 0x01 }
    (fun t => t.cpu.a = 0x02 ∧ t.cpu.ime = false ∧ t.cpu.imeDelay = 1) := by decide

/-- Trace I3, step 3: then the request is dispatched. -/
theorem test_ei_delay_I3_3 : ranTo { State.reset with
      cpu.pc := 0x0102, cpu.sp := 0xD000, cpu.imeDelay := 1, bus.ieReg := 0x01, bus.ifReg := 0x01 }
    (fun t => t.cpu.pc = 0x0040 ∧ t.cpu.imeDelay = 0 ∧ t.mem.read 0xCFFE = 0x02) := by decide

/-- Trace I6, step 4: a halted step wakes and does nothing else. -/
theorem test_halt_wakes_I6 : ranTo { State.reset with cpu.halted := true, bus.ieReg := 0x04, bus.ifReg := 0x04 }
    (fun t => t.cpu.halted = false ∧ t.cpu.pc = 0x0100 ∧ t.bus.ifReg = 0x04 ∧ t.cpu.cycles = 1) := by decide

/-- Trace I9, step 3: the EI delay is frozen while halted. -/
theorem test_halt_freezes_delay_I9 : ranTo { State.reset with
      cpu.halted := true, cpu.imeDelay := 1, bus.ieReg := 0x01, bus.ifReg := 0x01 }
    (fun t => t.cpu.halted = false ∧ t.cpu.imeDelay = 1 ∧ t.cpu.ime = false) := by decide

/-- Trace I10: bits 7 to 5 of IE and IF are masked. -/
theorem test_masked_I10 : ranTo { State.reset with cpu.ime := true, bus.ieReg := 0xE2, bus.ifReg := 0xFD }
    (fun t => t.cpu.pc = 0x0101 ∧ t.bus.ifReg = 0xFD) := by decide

/-! ## Timer -/

/-- Vectors T2 (the document's S7), T6 and T18. -/
theorem test_timer_T2 : let t := tickTimer 256 { State.reset.timer with tac := 0x05, tima := 0xFF, tma := 0x10 }
    t.div = 0x04 ∧ t.tima = 0x1F ∧ t.timaRemainder = 0 ∧ t.req = true := by decide

theorem test_timer_T6 : let t := [5, 5, 5, 5].foldl (fun t n => tickTimer n t) { State.reset.timer with tac := 0x05 }
    t.divRemainder = 20 ∧ t.tima = 0x01 ∧ t.timaRemainder = 4 ∧ t.req = false := by decide

theorem test_timer_T18 : let t := tickTimer 4 { State.reset.timer with tac := 0x05, timaRemainder := 500 }
    t.tima = 0x1F ∧ t.timaRemainder = 8 ∧ t.req = false := by decide

/-! ## Bus -/

/-- Vectors M15 and M16. -/
theorem test_stat_write_M15 : busRead (busWrite State.reset 0xFF41 0xFF) 0xFF41 = 0xF9
    ∧ busRead (busWrite State.reset 0xFF41 0x00) 0xFF41 = 0x01 := by decide

/-- Vector M5. -/
theorem test_echo_M5 : let s := busWrite (busWrite State.reset 0xC000 0x12) 0xE000 0x56
    busRead s 0xE000 = 0xFF ∧ busRead s 0xC000 = 0x12 := by decide

/-- Vector M23: OAM is locked in OAM_SCAN, VRAM is not. -/
theorem test_locks_M23 : let s := { loaded [(0x8000, 0x5A), (0xFE00, 0xA5)] with ppu.mode := .oamScan }
    busRead s 0x8000 = 0x5A ∧ busRead s 0xFE00 = 0xFF ∧ (busWrite s 0x8001 0x11).mem.read 0x8001 = 0x11
      ∧ (busWrite s 0xFE01 0x22).mem.read 0xFE01 = 0x00 := by decide

/-- Vector M26: the DMA copy reads through the VRAM lock. -/
theorem test_dma_M26 : let s := busWrite { loaded [(0x8000, 0x12)] with ppu.mode := .draw } 0xFF46 0x80
    s.mem.read 0xFE00 = 0xFF ∧ s.mem.read 0xFE9F = 0xFF := by decide +kernel

/-! ## PPU -/

/-- The dot-level table of section 2.13: dots 1 and 81 of line 0, and the entry into VBLANK. -/
theorem test_dot_1 : let p := (dotStep State.reset).ppu
    p.dots = 1 ∧ p.mode = .oamScan ∧ p.stat = 0x82 := by decide

theorem test_dot_253 : let p := (dotStep { State.reset with ppu.dots := 252, ppu.mode := .draw }).ppu
    p.dots = 253 ∧ p.mode = .hblank ∧ p.stat = 0x80 := by decide

theorem test_vblank_entry : let p := (dotStep { State.reset with ppu.ly := 144, ppu.mode := .hblank, ppu.windowLine := 3 }).ppu
    p.mode = .vblank ∧ p.vblankReq = true ∧ p.windowLine = 0 ∧ p.stat = 0x81 := by decide

theorem test_frame_wrap :
    let s := dotStep { State.reset with ppu.ly := 153, ppu.dots := 455, ppu.stat := 0x81 }
    s.ppu.ly = 0 ∧ s.ppu.dots = 0 ∧ s.ppu.mode = .oamScan ∧ s.ppu.stat = 0x86 ∧ s.out.frames.length = 1 := by decide

/-- Vectors OB1 (the document's S6) and OB3: lower X, then lower index, is composited last. -/
theorem test_sprite_order_OB1 :
    (spriteScan [(0xFE00, 16), (0xFE01, 50), (0xFE04, 16), (0xFE05, 80)] { State.reset.ppu with lcdc := 0x93 }).sprites.map (·.idx)
      = [1, 0] := by decide

theorem test_sprite_order_OB3 :
    (spriteScan [(0xFE0C, 16), (0xFE0D, 20), (0xFE1C, 16), (0xFE1D, 20)] { State.reset.ppu with lcdc := 0x93 }).sprites.map (·.idx)
      = [7, 3] := by decide

/-- The first eight shades of the row drawn. -/
def firstShades (mem : Memory) (p : Ppu) : List Nat :=
  match (drawScanline mem p).fb[0]? with
  | some row => (List.range 8).map fun x => (row[x]?.getD 0).toNat
  | none => []

/-- Vector DR1 (row 0 of the tile alone, which is all that line 0 reads). -/
theorem test_draw_DR1 : firstShades [(0x8010, 0x3C), (0x8011, 0x7E), (0x9800, 0x01)] { State.reset.ppu with bgp := 0xE4 }
    = [0, 2, 3, 3, 3, 3, 2, 0] := by decide +kernel

/-- Vector DR19: a sprite flipped in X over that background. -/
theorem test_draw_DR19 :
    let mem : Memory := [(0x8010, 0x3C), (0x8011, 0x7E), (0x8030, 0xF0), (0x8031, 0xCC), (0x9800, 0x01),
      (0xFE00, 16), (0xFE01, 8), (0xFE02, 3), (0xFE03, 0x20)]
    firstShades mem (spriteScan mem { State.reset.ppu with lcdc := 0x93, bgp := 0xE4, obp0 := 0xE4 }) = [0, 2, 2, 2, 1, 1, 3, 3] := by
  decide +kernel

/-! ## Witnesses: for every obligation with hypotheses, a state and operands that meet them -/

theorem witness_DecodeInvertsEncode : (Instr.bitMemHl 7).wf = true ∧ (Instr.ldSpD16 0xFFFF).wf = true := by decide

theorem witness_EncodeInvertsDecode : decode [0xFF, 0x00] = .ok (.rst38, [0x00]) := rfl

/-- One, two and three bytes, each just enough and one short. -/
theorem witness_DecodingTakesTheLengthOfTheFirstByte :
    lengthOfFirst 0x00 ≤ ([] : List Byte).length + 1 ∧ lengthOfFirst 0xCB ≤ ([0xFF] : List Byte).length + 1
      ∧ lengthOfFirst 0xFA ≤ ([0xFF, 0xFF] : List Byte).length + 1 ∧ ([] : List Byte).length + 1 < lengthOfFirst 0xCB
      ∧ ([0xFF] : List Byte).length + 1 < lengthOfFirst 0xFA := by decide

/-- A state whose next instruction is LD A,0x0F at the entry point. -/
def atLoad : State := loaded [(0x0100, 0x3E), (0x0101, 0x0F)]

/-- A state whose next instruction has its last byte in IE and its PC wraps, with the EI delay running. -/
def atWrap : State :=
  { loaded [(0xFFFE, 0x3E)] with cpu.pc := 0xFFFE, cpu.imeDelay := 2, bus.ieReg := 0x0F, bus.ifReg := 0x01 }

theorem witness_StepRunsTheDecodedInstruction :
    atLoad.cpu.halted = false ∧ dispatched (resolveImeDelay atLoad) = none ∧ (Instr.ldAD8 0x0F).wf = true
      ∧ ∀ k (h : k < (encode (.ldAD8 0x0F)).length), busRead atLoad (atLoad.cpu.pc + BitVec.ofNat 16 k) = (encode (.ldAD8 0x0F))[k] := by
  decide

theorem witness_StepRunsTheDecodedInstruction_wrap :
    atWrap.cpu.halted = false ∧ dispatched (resolveImeDelay atWrap) = none ∧ (Instr.ldAD8 0x0F).wf = true
      ∧ ∀ k (h : k < (encode (.ldAD8 0x0F)).length), busRead atWrap (atWrap.cpu.pc + BitVec.ofNat 16 k) = (encode (.ldAD8 0x0F))[k] := by
  decide

theorem witness_CpuStepHoldsTheDevices : ∃ t, cpuStep atLoad = .next t := ⟨_, rfl⟩

/-- Every writer of the control bits does change them. -/
theorem witness_OnlyTheirWritersChangeTheControlBits :
    (∃ t, exec .halt State.reset = .next t ∧ t.cpu.halted ≠ State.reset.cpu.halted)
      ∧ (∃ t, exec .reti State.reset = .next t ∧ t.cpu.ime ≠ State.reset.cpu.ime)
      ∧ (∃ t, exec .di { State.reset with cpu.ime := true, cpu.imeDelay := 1 } = .next t ∧ t.cpu.ime ≠ true ∧ t.cpu.imeDelay ≠ 1)
      ∧ (∃ t, exec .ei State.reset = .next t ∧ t.cpu.imeDelay ≠ State.reset.cpu.imeDelay) :=
  ⟨⟨_, rfl, by decide⟩, ⟨_, rfl, by decide⟩, ⟨_, rfl, by decide, by decide⟩, ⟨_, rfl, by decide⟩⟩

/-- Contents other than the blank ones: ROM, VRAM, WRAM, OAM and HRAM at their edges. -/
def someMemory : Memory :=
  [(0x0000, 0x01), (0x7FFF, 0x02), (0x8000, 0x03), (0x9FFF, 0x04), (0xC000, 0x05), (0xDFFF, 0x06), (0xFE00, 0x07), (0xFE9F, 0x08),
   (0xFF80, 0x09), (0xFFFE, 0x0A)]

theorem witness_ResetGivesTheDocumentedValues :
    ∃ s, s = State.resetWith someMemory (Vector.replicate 144 (Vector.replicate 160 3)) (.attached 7) := ⟨_, rfl⟩

theorem witness_ResetGivesTheDecidedValues :
    ∃ s, s = State.resetWith someMemory (Vector.replicate 144 (Vector.replicate 160 1)) .flatRom := ⟨_, rfl⟩

theorem witness_InvariantsHoldAtReset : Memory.wf someMemory = true ∧ ∀ cell ∈ someMemory, backed cell.1 = true := by decide

/-- A state in the middle of a frame, with a sprite in the buffer, the window drawn, the timer on and an EI delay. -/
def midFrame : State :=
  { loaded someMemory with
    cpu.imeDelay := 2, timer.tac := 0x05, timer.timaRemainder := 15, timer.divRemainder := 63, ppu.ly := 143, ppu.dots := 452
    ppu.mode := .hblank, ppu.stat := 0x80, ppu.windowLine := 144
    ppu.sprites := [{ y := 159, x := 8, tile := 1, attr := 0, idx := 0 }] }

theorem witness_EveryStepKeepsTheInvariant : Inv midFrame ∧ ∃ t, step midFrame = .next t := by
  refine ⟨⟨by decide, by decide, by decide, by decide, by decide, ?_, by decide, by decide, by decide, by decide, by decide, by decide⟩,
    ⟨_, rfl⟩⟩
  unfold WindowBound; decide

theorem witness_EveryStepKeepsThePpuTiming : PpuTiming midFrame ∧ ∃ t, step midFrame = .next t := by
  refine ⟨⟨by decide, by decide, by decide, ?_⟩, ⟨_, rfl⟩⟩
  unfold ModeTimed; decide

theorem witness_MemoryReadsBackAndHasOneCanonicalForm :
    Memory.wf someMemory = true ∧ Memory.wf (Memory.write [(5, 1)] 5 0) = true ∧ ∀ a, Memory.read (Memory.write [(5, 1)] 5 0) a = Memory.read [] a :=
  ⟨by decide, by decide, fun _ => rfl⟩

theorem witness_HaltedStepsOnlyWaitForAnEnabledRequest :
    ({ State.reset with cpu.halted := true, bus.ieReg := 0xE0, bus.ifReg := 0xFF } : State).cpu.halted = true
      ∧ ({ State.reset with cpu.halted := true, bus.ieReg := 0xE0, bus.ifReg := 0xFF } : State).bus.ieReg &&& 0x1F = 0
      ∧ ∃ t, step { State.reset with cpu.halted := true, bus.ieReg := 0xE0, bus.ifReg := 0xFF } = .next t :=
  ⟨rfl, rfl, _, rfl⟩

/-- One state for each of the four clauses, all not halted. -/
theorem witness_EnableDelayLetsOneInstructionRun :
    (let s := { State.reset with cpu.imeDelay := 2, bus.ieReg := 0x1F, bus.ifReg := 0x1F };
      s.cpu.halted = false ∧ s.cpu.imeDelay = 2 ∧ s.cpu.ime = false)
      ∧ (let s := { State.reset with cpu.imeDelay := 1, bus.ieReg := 0xE0, bus.ifReg := 0xFF };
        s.cpu.halted = false ∧ s.cpu.imeDelay = 1 ∧ pending s = 0)
      ∧ (let s := { State.reset with cpu.imeDelay := 1, bus.ieReg := 0x10, bus.ifReg := 0x10 };
        s.cpu.halted = false ∧ s.cpu.imeDelay = 1 ∧ pending s ≠ 0)
      ∧ (State.reset.cpu.halted = false ∧ State.reset.cpu.imeDelay = 0 ∧ State.reset.cpu.ime = false) := by decide

/-- The first and the last source, each with every other bit that may be set; then IME off, and nothing enabled. -/
theorem witness_LowestEnabledRequestIsDispatched :
    (let s := { State.reset with cpu.ime := true, bus.ieReg := 0xFF, bus.ifReg := 0xFF };
      s.cpu.halted = false ∧ (resolveImeDelay s).cpu.ime = true ∧ (s.bus.ieReg &&& s.bus.ifReg).getLsbD 0 = true)
      ∧ (let s := { State.reset with cpu.imeDelay := 1, bus.ieReg := 0xFF, bus.ifReg := 0xF0 };
        s.cpu.halted = false ∧ (resolveImeDelay s).cpu.ime = true ∧ (s.bus.ieReg &&& s.bus.ifReg).getLsbD 4 = true
          ∧ ∀ m, m < 4 → (s.bus.ieReg &&& s.bus.ifReg).getLsbD m = false)
      ∧ (let s := { State.reset with bus.ieReg := 0xFF, bus.ifReg := 0xFF };
        s.cpu.halted = false ∧ (resolveImeDelay s).cpu.ime = false)
      ∧ (let s := { State.reset with cpu.ime := true, bus.ieReg := 0xFF, bus.ifReg := 0xE0 };
        s.cpu.halted = false ∧ (resolveImeDelay s).bus.ieReg &&& (resolveImeDelay s).bus.ifReg &&& 0x1F = 0) := by decide

/-- An address outside IF and outside what the dispatch's push reaches. -/
theorem witness_LowestEnabledRequestIsDispatched_frame :
    (0xC000 : Addr) ≠ 0xFF0F ∧ ¬ StoreReaches State.reset 0xFFFD 0xC000 ∧ ¬ StoreReaches State.reset 0xFFFC 0xC000 := by
  unfold StoreReaches; decide

/-- The remainder at its largest and the most cycles a step takes; and the remainder that does not reach 64. -/
theorem witness_DividerCountsEverySixtyFourCycles :
    6 ≤ 6 ∧ midFrame.timer.divRemainder < 64 ∧ ¬ midFrame.timer.divRemainder + 6 < 64
      ∧ State.reset.timer.divRemainder < 64 ∧ State.reset.timer.divRemainder + 6 < 64 := by decide

/-- The timer stopped; the last increment before an overflow; the overflow itself. -/
theorem witness_CounterReloadsFromTmaOnOverflow :
    State.reset.timer.tac.getLsbD 2 = false
      ∧ (let t := { State.reset.timer with tac := 0x05, tima := 0xFE, timaRemainder := 15 }
        t.tac.getLsbD 2 = true ∧ t.tima.toNat + (t.timaRemainder + 1) / timerPeriod t.tac ≤ 255)
      ∧ (let t := { State.reset.timer with tac := 0x05, tima := 0xFF, tma := 0xFF, timaRemainder := 15 }
        t.tac.getLsbD 2 = true ∧ 255 < t.tima.toNat + (t.timaRemainder + 1) / timerPeriod t.tac) := by decide

/-- Each region at its first and last address, and the modes on both sides of the locks. -/
theorem witness_StorageRegionsObeyTheirLocks :
    ([0x8000, 0x9FFF] : List Addr).all (fun a => 0x8000 ≤ a.toNat ∧ a.toNat ≤ 0x9FFF) = true
      ∧ ([0xFE00, 0xFE9F] : List Addr).all (fun a => 0xFE00 ≤ a.toNat ∧ a.toNat ≤ 0xFE9F) = true
      ∧ ([0xC000, 0xDFFF, 0xFF80, 0xFFFE] : List Addr).all (fun a =>
          (0xC000 ≤ a.toNat ∧ a.toNat ≤ 0xDFFF) ∨ (0xFF80 ≤ a.toNat ∧ a.toNat ≤ 0xFFFE)) = true
      ∧ ({ State.reset with ppu.mode := .draw } : State).ppu.mode = .draw
      ∧ ({ State.reset with ppu.mode := .oamScan } : State).ppu.mode = .oamScan
      ∧ midFrame.ppu.mode = .hblank ∧ State.reset.ppu.mode = .vblank := by decide

theorem witness_CartridgeAndUnownedRegions :
    ([0x0000, 0x7FFF, 0xA000, 0xBFFF] : List Addr).all (fun a => a.toNat ≤ 0x7FFF ∨ (0xA000 ≤ a.toNat ∧ a.toNat ≤ 0xBFFF)) = true
      ∧ ([0xE000, 0xFDFF, 0xFEA0, 0xFEFF, 0xFF00, 0xFF03, 0xFF08, 0xFF0E, 0xFF10, 0xFF3F, 0xFF4C, 0xFF7F] : List Addr).all (fun a =>
          (0xE000 ≤ a.toNat ∧ a.toNat ≤ 0xFDFF) ∨ (0xFEA0 ≤ a.toNat ∧ a.toNat ≤ 0xFEFF) ∨ a.toNat = 0xFF00 ∨ a.toNat = 0xFF03
            ∨ (0xFF08 ≤ a.toNat ∧ a.toNat ≤ 0xFF0E) ∨ (0xFF10 ≤ a.toNat ∧ a.toNat ≤ 0xFF3F)
            ∨ (0xFF4C ≤ a.toNat ∧ a.toNat ≤ 0xFF7F)) = true
      ∧ State.reset.cart = .flatRom ∧ ({ State.reset with cart := .attached 3 } : State).cart = .attached 3 := by decide

theorem witness_DmaCopiesOneHundredAndSixtyBytes : ∃ d : State, d = { midFrame with ppu.dma := 0xFF } := ⟨_, rfl⟩

/-- A plain store; a store that starts a DMA transfer; a store to an attached cartridge. -/
theorem witness_StoresChangeOnlyWhatTheyReach :
    ¬ StoreReaches State.reset 0xC000 0xC001 ∧ StoreReaches State.reset 0xFF46 0xFE00
      ∧ ¬ StoreReaches State.reset 0xFF46 0xFEA0 ∧ ¬ StoreReaches { State.reset with cart := .attached 0 } 0x2000 0x8000 := by
  unfold StoreReaches; decide

theorem witness_DotStepMirrorsTheModeAndDetectsTheEdge :
    ∃ (p q : Ppu), p = midFrame.ppu ∧ q = (dotStep midFrame).ppu := ⟨_, _, rfl, rfl⟩

theorem witness_FramesAreOutputEverySeventyThousandDots :
    midFrame.ppu.ly.toNat ≤ 153 ∧ midFrame.ppu.dots ≤ 455
      ∧ ({ State.reset with ppu.ly := 153, ppu.dots := 455 } : State).ppu.ly = 153
      ∧ ({ State.reset with ppu.ly := 153, ppu.dots := 455 } : State).ppu.dots = 455 := by decide

theorem witness_SpriteScanKeepsTheFirstTenInDrawOrder :
    ({ State.reset with ppu.ly := 143 } : State).ppu.ly.toNat ≤ 143 ∧ ({ State.reset with ppu.ly := 143 } : State).ppu.dots = 0 := by
  decide

theorem witness_ScanlineDrawsEveryPixel :
    midFrame.ppu.ly.toNat ≤ 143 ∧ ({ State.reset with ppu.ly := 143, ppu.dots := 80 } : State).ppu.ly.toNat ≤ 143
      ∧ ({ State.reset with ppu.ly := 143, ppu.dots := 80 } : State).ppu.dots = 80 := by decide

theorem witness_RegistersAndPairsAreViewsOfOneFile : State.reset.cpu.f &&& 0x0F = 0 := by decide

/-- HL at both ends of its range. -/
theorem witness_LoadsAndStoresThatMoveHl :
    (let s := { State.reset with cpu.h := 0xFF, cpu.l := 0xFF };
      (0x0000 : Addr).toNat = (s.hl.toNat + 1) % 65536 ∧ (0xFFFE : Addr).toNat = (s.hl.toNat + 65535) % 65536)
      ∧ (let s := { State.reset with cpu.h := 0x00, cpu.l := 0x00 };
        (0x0001 : Addr).toNat = (s.hl.toNat + 1) % 65536 ∧ (0xFFFF : Addr).toNat = (s.hl.toNat + 65535) % 65536) := by decide

/-- SP wraps upwards, and downwards with the most negative offset. -/
theorem witness_SignedOffsetsFromSp :
    (((0x007D : Addr).toNat : Int) = ((State.reset.cpu.sp.toNat : Int) + (0x7F : Byte).toInt) % 65536)
      ∧ (((0xFF80 : Addr).toNat : Int) = ((({ State.reset with cpu.sp := 0x0000 } : State).cpu.sp.toNat : Int) + (0x80 : Byte).toInt) % 65536) := by
  decide

/-- The stack's two bytes at the two ends of WRAM and of HRAM. -/
theorem witness_StackReturnsWhatWasPushed :
    ([0xC002, 0xE000, 0xFF82, 0xFFFF] : List Addr).all (fun sp =>
      [sp - 1, sp - 2].all fun b => regionOf b = .wram ∨ regionOf b = .hram) = true := by decide

/-- Each operand form with the count that goes with it, on the extreme values. -/
theorem witness_AdditionsToTheAccumulator :
    let s := { loaded [(0xC000, 0xFF)] with cpu.a := 0xFF, cpu.b := 0x01, cpu.h := 0xC0, cpu.l := 0x00 }
    255 = s.cpu.a.toNat ∧ 1 = (getSource s (.loc (.reg .B))).toNat ∧ 255 = (getSource s (.loc .memHl)).toNat
      ∧ 0 = (getSource s (.imm 0)).toNat ∧ 1 = (carryFlag s).toNat := by decide

theorem witness_SubtractionsFromTheAccumulator :
    let s := { loaded [(0xC000, 0xFF)] with cpu.a := 0x00, cpu.f := 0x00, cpu.h := 0xC0, cpu.l := 0x00 }
    0 = s.cpu.a.toNat ∧ 0 = (getSource s (.loc (.reg .A))).toNat ∧ 255 = (getSource s (.loc .memHl)).toNat
      ∧ 255 = (getSource s (.imm 0xFF)).toNat ∧ 0 = (carryFlag s).toNat := by decide

theorem witness_LogicOnTheAccumulator : (0x13 : Byte) = getSource State.reset (.loc (.reg .C)) ∧ (0xF0 : Byte) = getSource State.reset (.imm 0xF0) := by
  decide

theorem witness_RegisterIncrementsAndDecrements :
    0 = (State.reset.getR8 .B).toNat ∧ 255 = (({ State.reset with cpu.a := 0xFF } : State).getR8 .A).toNat := by decide

theorem witness_MemoryIncrementsAndDecrements :
    0 = (busRead State.reset State.reset.hl).toNat
      ∧ 255 = (let s := { State.reset with cpu.h := 0xE0 }; busRead s s.hl).toNat := by decide

theorem witness_AdditionsToHl : 65534 = (State.reset.getR16 .SP).toNat ∧ 333 = (State.reset.getR16 .HL).toNat := by decide

theorem witness_PairIncrementsAndDecrements :
    (let s := { State.reset with cpu.sp := 0xFFFF };
      (0x0000 : Addr).toNat = ((s.getR16 .SP).toNat + 1) % 65536 ∧ (0xFFFE : Addr).toNat = ((s.getR16 .SP).toNat + 65535) % 65536)
      ∧ (let s := { State.reset with cpu.b := 0x00, cpu.c := 0x00 };
        (0x0001 : Addr).toNat = ((s.getR16 .BC).toNat + 1) % 65536 ∧ (0xFFFF : Addr).toNat = ((s.getR16 .BC).toNat + 65535) % 65536) := by
  decide

theorem witness_AccumulatorRotatesAndFlagOperations :
    128 = ({ State.reset with cpu.a := 0x80 } : State).cpu.a.toNat ∧ 1 = (carryFlag { State.reset with cpu.a := 0x80 }).toNat := by decide

/-- Both corrections after an addition; both after a subtraction; none. -/
theorem witness_DecimalAdjustCorrectsTheAccumulator :
    (let s := { State.reset with cpu.a := 0x9A, cpu.f := 0x00 };
      154 = s.cpu.a.toNat ∧ true = (halfFlag s || (!subFlag s && decide (0x09 < s.cpu.a.toNat % 16)))
        ∧ true = (carryFlag s || (!subFlag s && decide (0x99 < s.cpu.a.toNat))))
      ∧ (let s := { State.reset with cpu.a := 0xFF, cpu.f := 0x70 };
        true = (halfFlag s || (!subFlag s && decide (0x09 < s.cpu.a.toNat % 16)))
          ∧ true = (carryFlag s || (!subFlag s && decide (0x99 < s.cpu.a.toNat))))
      ∧ (let s := { State.reset with cpu.a := 0x99, cpu.f := 0x00 };
        false = (halfFlag s || (!subFlag s && decide (0x09 < s.cpu.a.toNat % 16)))
          ∧ false = (carryFlag s || (!subFlag s && decide (0x99 < s.cpu.a.toNat)))) := by decide

/-- The largest two decimal bytes with a carry in, and the smallest. -/
theorem witness_DecimalArithmeticIsExact :
    (let s := { State.reset with cpu.a := 0x99, cpu.f := 0x10 };
      99 < 100 ∧ s.cpu.a = packedDecimal 99 ∧ 1 = (carryFlag s).toNat)
      ∧ (let s := { State.reset with cpu.a := 0x00, cpu.f := 0x00 };
        0 < 100 ∧ s.cpu.a = packedDecimal 0 ∧ 0 = (carryFlag s).toNat) := by decide

/-- A branch back over zero and one forward over the top. -/
theorem witness_JumpsSetPc :
    (((0xFF80 : Addr).toNat : Int) = ((({ State.reset with cpu.pc := 0x0000 } : State).cpu.pc.toNat : Int) + (0x80 : Byte).toInt) % 65536)
      ∧ (((0x007E : Addr).toNat : Int) = ((({ State.reset with cpu.pc := 0xFFFF } : State).cpu.pc.toNat : Int) + (0x7F : Byte).toInt) % 65536) := by
  decide

theorem witness_JumpsSetPc_conditions :
    condition State.reset .Z = true ∧ condition State.reset .NZ = false ∧ condition State.reset .C = true
      ∧ condition State.reset .NC = false := by decide

theorem witness_CallsPushTheReturnAddress : condition State.reset .Z = true ∧ condition State.reset .NC = false := by decide

theorem witness_RotatesAndShifts : 216 = (getLoc State.reset (.reg .E)).toNat ∧ 0 = (getLoc State.reset .memHl).toNat := by decide

/-- Bit 0 of 0xFF cleared and bit 7 of 0x00 set. -/
theorem witness_BitTestsClearsAndSets :
    (let s := { State.reset with cpu.a := 0xFF };
      (0xFF : Byte) = getLoc s (.reg .A) ∧ (∀ n, n < 8 → (0xFE : Byte).getLsbD n = ((0xFF : Byte).getLsbD n && decide (n ≠ (0 : BitVec 3).toNat)))
        ∧ (∀ n, n < 8 → (0xFF : Byte).getLsbD n = ((0xFF : Byte).getLsbD n || decide (n = (0 : BitVec 3).toNat))))
      ∧ (∀ n, n < 8 → (0x80 : Byte).getLsbD n = ((0x00 : Byte).getLsbD n || decide (n = (7 : BitVec 3).toNat)))
      ∧ (∀ n, n < 8 → (0x00 : Byte).getLsbD n = ((0x00 : Byte).getLsbD n && decide (n ≠ (7 : BitVec 3).toNat))) := by decide

/-- And above bit 7 both sides are false. -/
theorem witness_BitTestsClearsAndSets_above (n : Nat) (h : 8 ≤ n) :
    (0xFE : Byte).getLsbD n = ((0xFF : Byte).getLsbD n && decide (n ≠ (0 : BitVec 3).toNat))
      ∧ (0xFF : Byte).getLsbD n = ((0xFF : Byte).getLsbD n || decide (n = (0 : BitVec 3).toNat)) := by
  have h0 : n ≠ 0 := by omega
  simp [BitVec.getLsbD_of_ge _ n h, h0]

theorem witness_UnassignedOpcodesAreReportedNoOps : (0xD3, Instr.illegalD3) ∈ unassignedOpcodes ∧ (0xFD, Instr.illegalFD) ∈ unassignedOpcodes := by
  decide
end Sys2Proof.Tests
end

section
/-! What every system step keeps (10_state.md R49): the CPU step by `Completes`, the dots one by one, the timer, the latch. -/

namespace Sys2Proof.Machine

/-! ### The system step as its parts -/

/-- The CPU step completes from every state (60_exceptions.md R301, R315). -/
theorem cpuStep_completes (s : State) : ∃ t, cpuStep s = .next t ∧ Completes s t := by
  unfold cpuStep
  by_cases hh : s.cpu.halted
  · rw [if_pos hh]
    exact ⟨_, rfl, haltedStep_runs s, by simp [haltedStep], by simp [haltedStep]⟩
  · rw [if_neg hh]
    cases dispatched (resolveImeDelay s) with
    | some i =>
      exact ⟨_, rfl, (resolveImeDelay_runs s).trans (takeInterrupt_runs i _), by simp [takeInterrupt], by simp [takeInterrupt]⟩
    | none =>
      obtain ⟨t, ht, hc⟩ := runInstruction_completes (resolveImeDelay s)
      exact ⟨t, ht, (resolveImeDelay_runs s).trans hc.runs, hc.positive, hc.atMostSix⟩

/-- A system step is a CPU step that completes, and then the devices for the M-cycles it took (60_exceptions.md R300). -/
theorem step_next {s t : State} (h : step s = .next t) :
    ∃ u, cpuStep s = .next u ∧ Completes s u ∧ t = advanceDevices u.cpu.cycles u := by
  obtain ⟨u, hu, hc⟩ := cpuStep_completes s
  unfold step at h
  rw [hu] at h
  cases h
  exact ⟨u, hu, hc, rfl⟩

/-! ### The PPU's part of the invariant -/

/-- What R49 says of the PPU. -/
structure PpuInv (p : Ppu) : Prop where
  line : p.ly.toNat ≤ 153
  dots : p.dots ≤ 455
  mirror : p.stat &&& 0x03 = modeCode p.mode
  window : WindowBound p
  sprites : p.sprites.length ≤ 10

theorem Inv.ppu {s : State} (h : Inv s) : PpuInv s.ppu := ⟨h.line, h.dots, h.mirror, h.window, h.sprites⟩

theorem WindowBound.congr {p q : Ppu} (h : WindowBound p) (hl : q.ly = p.ly) (hd : q.dots = p.dots)
    (hw : q.windowLine = p.windowLine) : WindowBound q := by
  unfold WindowBound at h ⊢
  rwa [hl, hd, hw]

/-- A CPU step leaves STAT's mode bits, the position and the drawing state to the PPU. -/
theorem DevicesHeld.ppuInv {s t : State} (k : DevicesHeld s t) (h : PpuInv s.ppu) : PpuInv t.ppu where
  line := k.line ▸ h.line
  dots := k.dots ▸ h.dots
  mirror := by
    have low (v : Byte) : v &&& 0x03 = v &&& 0x07 &&& 0x03 := by rw [BitVec.and_assoc]; rfl
    rw [low, k.statLow, k.mode, ← low, h.mirror]
  window := h.window.congr k.line k.dots k.windowLine
  sprites := k.sprites ▸ h.sprites

/-- LY does not wrap within a frame. -/
theorem line_succ_toNat {v : Byte} (h : v.toNat ≤ 153) : (v + 1).toNat = v.toNat + 1 := by
  rw [BitVec.toNat_add, show (1 : Byte).toNat = 1 from rfl]
  omega

/-- The bound on the window's line counter, case by case of the position. -/
theorem windowBound_iff (p : Ppu) :
    WindowBound p ↔
      (p.ly.toNat ≤ 143 ∧ p.dots ≤ 80 → p.windowLine ≤ p.ly.toNat)
        ∧ (p.ly.toNat ≤ 143 ∧ 80 < p.dots → p.windowLine ≤ p.ly.toNat + 1)
        ∧ (p.ly.toNat = 144 ∧ p.dots = 0 → p.windowLine ≤ 144)
        ∧ (143 < p.ly.toNat ∧ ¬ (p.ly.toNat = 144 ∧ p.dots = 0) → p.windowLine = 0) := by
  unfold WindowBound
  by_cases hl : p.ly.toNat ≤ 143
  · rw [if_pos hl]
    by_cases hd : p.dots ≤ 80
    · rw [if_pos hd]; omega
    · rw [if_neg hd]; omega
  · rw [if_neg hl]
    by_cases hv : p.ly.toNat = 144 ∧ p.dots = 0
    · rw [if_pos hv]; omega
    · rw [if_neg hv]; omega

/-- The window's line counter rises at most once in a visible line, at dot 80, and is cleared as VBLANK begins. -/
theorem dotStep_windowBound {s : State} (hl : s.ppu.ly.toNat ≤ 153) (hd : s.ppu.dots ≤ 455) (h : WindowBound s.ppu) :
    WindowBound (dotStep s).ppu := by
  obtain ⟨hcases, hclear⟩ := dotStep_windowLine s
  have hclear' : s.ppu.ly.toNat = 144 ∧ s.ppu.dots = 0 → (dotStep s).ppu.windowLine = 0 := fun h => hclear h.1 h.2
  have hzero : (0 : Byte).toNat = 0 := rfl
  have hnext := line_succ_toNat hl
  rw [windowBound_iff] at h ⊢
  rw [dotStep_ly, dotStep_dots]
  by_cases hend : s.ppu.dots = 455
  · rw [if_pos hend, if_pos hend]
    by_cases hlast : s.ppu.ly.toNat = 153
    · rw [if_pos hlast, hzero]; omega
    · rw [if_neg hlast, hnext]; omega
  · rw [if_neg hend, if_neg hend]; omega

theorem dotStep_ppuInv {s : State} (h : PpuInv s.ppu) : PpuInv (dotStep s).ppu where
  line := by
    have hl := h.line
    rw [dotStep_ly]
    split
    · split
      · exact Nat.zero_le 153
      · rw [line_succ_toNat hl]; omega
    · exact hl
  dots := by
    have hd := h.dots
    rw [dotStep_dots]
    split <;> omega
  mirror := dotStep_mirror s
  window := dotStep_windowBound h.line h.dots h.window
  sprites := by
    rw [dotStep_sprites]
    split
    · exact spriteScan_length s.mem s.ppu
    · exact h.sprites

theorem ppuTick_ppuInv (n : Nat) {s : State} (h : PpuInv s.ppu) : PpuInv (ppuTick n s).ppu :=
  dotSteps_induction (P := fun s => PpuInv s.ppu) (fun _ => dotStep_ppuInv) (4 * n) s h

/-! ### The timer's part -/

theorem tickTimer_tac (n : Nat) (t : Timer) : (tickTimer n t).tac = t.tac := by
  unfold tickTimer tickCounter
  split
  · rw [countTimaTimes_keeps]; rfl
  · rfl

theorem tickTimer_divRemainder (n : Nat) (t : Timer) : (tickTimer n t).divRemainder = (t.divRemainder + n) % 64 := by
  unfold tickTimer tickCounter
  split
  · rw [countTimaTimes_keeps]; rfl
  · rfl

/-- A tick of a running timer leaves less than a period of the TAC in force, whatever the remainder was before. -/
theorem tickTimer_timaRemainder_lt (n : Nat) (t : Timer) (h : timerEnabled t.tac = true) :
    (tickTimer n t).timaRemainder < timerPeriod t.tac := by
  have hd : (tickDivider n t).tac = t.tac := rfl
  unfold tickTimer tickCounter
  rw [hd, if_pos h, countTimaTimes_keeps]
  exact Nat.mod_lt _ (timerPeriod_pos t.tac)

/-! ### The system step -/

/-- The PPU, the timer and the latch restore the parts of the invariant that a CPU step may break, and keep the others. -/
theorem advanceDevices_inv (n : Nat) {s : State} (hf : s.cpu.f &&& 0x0F = 0) (hdelay : s.cpu.imeDelay ≤ 2) (hppu : PpuInv s.ppu)
    (hmem : s.mem.wf = true) (hstore : ∀ cell ∈ s.mem, backed cell.1 = true) : Inv (advanceDevices n s) := by
  obtain ⟨hcpu, -, -, hm, -, -⟩ := dotSteps_others (4 * n) s
  have hp : PpuInv (ppuTick n s).ppu := ppuTick_ppuInv n hppu
  have hcpu' : (advanceDevices n s).cpu = s.cpu := hcpu
  have hmem' : (advanceDevices n s).mem = s.mem := hm
  exact
    { flagsLow := by rw [hcpu', hf]
      delay := by rw [hcpu']; exact hdelay
      line := hp.line
      dots := hp.dots
      mirror := hp.mirror
      window := hp.window.congr rfl rfl rfl
      sprites := hp.sprites
      divider := by
        have hdiv : (advanceDevices n s).timer.divRemainder = _ := tickTimer_divRemainder n _
        rw [hdiv]
        exact Nat.mod_lt _ (by decide)
      counter := fun h => by
        have htac : (advanceDevices n s).timer.tac = (ppuTick n s).timer.tac := tickTimer_tac n _
        rw [htac] at h ⊢
        exact tickTimer_timaRemainder_lt n _ h
      canonical := by rw [hmem', hmem]
      storage := by rw [hmem']; exact hstore
      requests := ⟨rfl, rfl, rfl⟩ }

/-- Settles O12: a CPU step keeps what the devices do not restore, and the devices keep or restore the rest. -/
theorem everyStepKeepsTheInvariant : Obligations.EveryStepKeepsTheInvariant := by
  unfold Obligations.EveryStepKeepsTheInvariant
  intro s t h hstep
  obtain ⟨u, -, ⟨hruns, -, -⟩, rfl⟩ := step_next hstep
  exact advanceDevices_inv u.cpu.cycles (hruns.flagsLow h.flagsLow) (hruns.delay h.delay) (hruns.devices.ppuInv h.ppu)
    (hruns.canonical h.canonical) (hruns.storage h.storage)

end Sys2Proof.Machine
end

section
/-! The canonical form of memory is unique (log entry 3). -/

namespace Sys2Proof.Machine

/-- Below its bound a canonical list has nothing listed. -/
theorem Memory.read_le_bound {low a : Nat} {m : Memory} (h : Memory.wfAbove (some low) m = true) (ha : a ≤ low) :
    m.read a = Memory.unlisted := by
  induction m generalizing low with
  | nil => rfl
  | cons cell rest ih =>
    obtain ⟨hlow, -, hrest⟩ := Memory.wfAbove_cons.1 h
    have hlt := hlow low rfl
    have hne : cell.1 ≠ a := by omega
    rw [Memory.read, if_neg hne]
    exact ih hrest (by omega)

/-- Below its first cell a canonical list has nothing listed. -/
theorem Memory.read_lt_head {bound : Option Nat} {cell : Host.Cell} {rest : Memory} {a : Nat}
    (h : Memory.wfAbove bound (cell :: rest) = true) (ha : a < cell.1) : Memory.read (cell :: rest) a = Memory.unlisted := by
  obtain ⟨-, -, hrest⟩ := Memory.wfAbove_cons.1 h
  rw [Memory.read, if_neg (by omega)]
  exact Memory.read_le_bound hrest (by omega)

theorem Memory.read_head (cell : Host.Cell) (rest : Memory) : Memory.read (cell :: rest) cell.1 = cell.2 := if_pos rfl

/-- Canonical lists that read alike do not begin at different addresses. -/
theorem Memory.not_head_lt_head {b b' : Option Nat} {c d : Host.Cell} {m n : Memory} (hm : Memory.wfAbove b (c :: m) = true)
    (hn : Memory.wfAbove b' (d :: n) = true) (h : ∀ a, Memory.read (c :: m) a = Memory.read (d :: n) a) : ¬ c.1 < d.1 := by
  intro hlt
  obtain ⟨-, hc, -⟩ := Memory.wfAbove_cons.1 hm
  rw [← Memory.read_head c m, h, Memory.read_lt_head hn hlt] at hc
  exact hc rfl

/-- A canonical list with a cell does not read as the empty one. -/
theorem Memory.exists_listed {bound : Option Nat} {c : Host.Cell} {m : Memory} (h : Memory.wfAbove bound (c :: m) = true) :
    ∃ a, Memory.read (c :: m) a ≠ Memory.unlisted := by
  obtain ⟨-, hc, -⟩ := Memory.wfAbove_cons.1 h
  exact ⟨c.1, by rwa [Memory.read_head]⟩

/-- A canonical list is determined by what it reads. -/
theorem Memory.wfAbove_ext {b b' : Option Nat} {m n : Memory} (hm : Memory.wfAbove b m = true) (hn : Memory.wfAbove b' n = true)
    (h : ∀ a, m.read a = n.read a) : m = n := by
  induction m generalizing n b b' with
  | nil =>
    cases n with
    | nil => rfl
    | cons d n =>
      obtain ⟨a, ha⟩ := Memory.exists_listed hn
      exact absurd (h a).symm ha
  | cons c m ih =>
    cases n with
    | nil =>
      obtain ⟨a, ha⟩ := Memory.exists_listed hm
      exact absurd (h a) ha
    | cons d n =>
      have haddr : c.1 = d.1 := by
        have hcd := Memory.not_head_lt_head hm hn h
        have hdc := Memory.not_head_lt_head hn hm (fun a => (h a).symm)
        omega
      have hbyte : c.2 = d.2 := by
        rw [← Memory.read_head c m, h, haddr, Memory.read_head]
      obtain ⟨-, -, hm'⟩ := Memory.wfAbove_cons.1 hm
      obtain ⟨-, -, hn'⟩ := Memory.wfAbove_cons.1 hn
      have htail : ∀ a, Memory.read m a = Memory.read n a := by
        intro a
        by_cases ha : c.1 = a
        · rw [Memory.read_le_bound hm' (Nat.le_of_eq ha.symm), Memory.read_le_bound hn' (Nat.le_of_eq (ha.symm.trans haddr))]
        · have := h a
          rwa [Memory.read, if_neg ha, Memory.read, if_neg (haddr ▸ ha)] at this
      rw [Prod.ext haddr hbyte, ih hm' hn' htail]

/-- Settles O14: reads after writes and the kept form are the laws of `Memory.write`; uniqueness is by induction on the two
lists, whose heads must agree. -/
theorem memoryReadsBackAndHasOneCanonicalForm : Obligations.MemoryReadsBackAndHasOneCanonicalForm := by
  unfold Obligations.MemoryReadsBackAndHasOneCanonicalForm
  exact ⟨fun m a b v => ⟨Memory.read_write m a b v, Memory.wf_write a v⟩, fun _ _ => Memory.wfAbove_ext⟩

end Sys2Proof.Machine
end

section
/-! The three control bits of the CPU and their writers (10_state.md R16, R17, R18). One lemma per update, then one per shared
meaning; `exec_control` says it of `exec`. -/

namespace Sys2Proof.Machine

/-- IME, `ime_delay` and `halted`. -/
def State.control (s : State) : Bool × Nat × Bool := (s.cpu.ime, s.cpu.imeDelay, s.cpu.halted)

theorem State.control_eq_iff (s t : State) :
    t.control = s.control ↔ t.cpu.ime = s.cpu.ime ∧ t.cpu.imeDelay = s.cpu.imeDelay ∧ t.cpu.halted = s.cpu.halted := by
  simp [State.control]

/-! ### The updates that leave them alone -/

@[simp] theorem State.took_control (s : State) (n : Nat) : (s.took n).control = s.control := rfl
@[simp] theorem State.setPc_control (s : State) (v : Addr) : (s.setPc v).control = s.control := rfl
@[simp] theorem State.setSp_control (s : State) (v : Addr) : (s.setSp v).control = s.control := rfl
@[simp] theorem State.setA_control (s : State) (v : Byte) : (s.setA v).control = s.control := rfl
@[simp] theorem State.setFlags_control (s : State) (fl : Flags) : (s.setFlags fl).control = s.control := rfl
@[simp] theorem State.setHl_control (s : State) (v : Addr) : (s.setHl v).control = s.control := rfl
@[simp] theorem State.report_control (s : State) (op : Byte) : (s.report op).control = s.control := rfl
@[simp] theorem State.setR8_control (s : State) (r : R8) (v : Byte) : (s.setR8 r v).control = s.control := by cases r <;> rfl
@[simp] theorem State.setR16_control (s : State) (r : R16) (v : Addr) : (s.setR16 r v).control = s.control := by cases r <;> rfl
@[simp] theorem State.setR16Stk_control (s : State) (r : R16Stk) (v : Addr) : (s.setR16Stk r v).control = s.control := by
  cases r <;> rfl
@[simp] theorem dropWord_control (s : State) : (dropWord s).control = s.control := rfl

@[simp] theorem busWrite_control (s : State) (a : Addr) (v : Byte) : (busWrite s a v).control = s.control := by
  simp [State.control]

@[simp] theorem putLoc_control (s : State) (l : Loc) (v : Byte) : (putLoc s l v).control = s.control := by
  cases l with
  | reg r => exact s.setR8_control r v
  | memHl => exact busWrite_control s s.hl v

@[simp] theorem push16_control (v : Addr) (s : State) : (push16 v s).control = s.control := by
  simp [State.control, push16_cpu]

@[simp] theorem memWrite16_control (s : State) (a v : Addr) : (memWrite16 s a v).control = s.control := by
  simp [memWrite16]

/-! ### The meanings that leave them alone -/

@[simp] theorem ldRegReg_control (d r : R8) (s : State) : (ldRegReg d r s).control = s.control := by simp [ldRegReg]
@[simp] theorem ldRegImm_control (d : R8) (v : Byte) (s : State) : (ldRegImm d v s).control = s.control := by simp [ldRegImm]
@[simp] theorem ldRegMem_control (d : R8) (s : State) : (ldRegMem d s).control = s.control := by simp [ldRegMem]
@[simp] theorem ldMemReg_control (r : R8) (s : State) : (ldMemReg r s).control = s.control := by simp [ldMemReg]
@[simp] theorem ldMemImm_control (v : Byte) (s : State) : (ldMemImm v s).control = s.control := by simp [ldMemImm]
@[simp] theorem loadA_control (a : Addr) (n : Nat) (s : State) : (loadA a n s).control = s.control := by simp [loadA]
@[simp] theorem storeA_control (a : Addr) (n : Nat) (s : State) : (storeA a n s).control = s.control := by simp [storeA]
@[simp] theorem storeAMoveHl_control (d : Addr) (s : State) : (storeAMoveHl d s).control = s.control := by simp [storeAMoveHl]
@[simp] theorem loadAMoveHl_control (d : Addr) (s : State) : (loadAMoveHl d s).control = s.control := by simp [loadAMoveHl]
@[simp] theorem ldPairImm_control (r : R16) (v : Addr) (s : State) : (ldPairImm r v s).control = s.control := by simp [ldPairImm]
@[simp] theorem ldMemSp_control (a : Addr) (s : State) : (ldMemSp a s).control = s.control := by simp [ldMemSp]
@[simp] theorem ldSpFromHl_control (s : State) : (ldSpFromHl s).control = s.control := by simp [ldSpFromHl]
@[simp] theorem ldHlSpOffset_control (e : Byte) (s : State) : (ldHlSpOffset e s).control = s.control := by simp [ldHlSpOffset]
@[simp] theorem pushPair_control (r : R16Stk) (s : State) : (pushPair r s).control = s.control := by simp [pushPair]
@[simp] theorem popPair_control (r : R16Stk) (s : State) : (popPair r s).control = s.control := by simp [popPair]
@[simp] theorem alu_control (op : AluOp) (x : Source) (s : State) : (alu op x s).control = s.control := by simp [alu]
@[simp] theorem incLoc_control (l : Loc) (s : State) : (incLoc l s).control = s.control := by simp [incLoc]
@[simp] theorem decLoc_control (l : Loc) (s : State) : (decLoc l s).control = s.control := by simp [decLoc]
@[simp] theorem addHlPair_control (r : R16) (s : State) : (addHlPair r s).control = s.control := by simp [addHlPair]
@[simp] theorem incPair_control (r : R16) (s : State) : (incPair r s).control = s.control := by simp [incPair]
@[simp] theorem decPair_control (r : R16) (s : State) : (decPair r s).control = s.control := by simp [decPair]
@[simp] theorem addSpOffset_control (e : Byte) (s : State) : (addSpOffset e s).control = s.control := by simp [addSpOffset]
@[simp] theorem accRotate_control (op : ShiftOp) (s : State) : (accRotate op s).control = s.control := by simp [accRotate]
@[simp] theorem decimalAdjust_control (s : State) : (decimalAdjust s).control = s.control := by simp [decimalAdjust]
@[simp] theorem complementA_control (s : State) : (complementA s).control = s.control := by simp [complementA]
@[simp] theorem setCarry_control (s : State) : (setCarry s).control = s.control := by simp [setCarry]
@[simp] theorem complementCarry_control (s : State) : (complementCarry s).control = s.control := by simp [complementCarry]
@[simp] theorem jump_control (a : Addr) (s : State) : (jump a s).control = s.control := by simp [jump]
@[simp] theorem jumpHl_control (s : State) : (jumpHl s).control = s.control := by simp [jumpHl]
@[simp] theorem jumpRel_control (e : Byte) (s : State) : (jumpRel e s).control = s.control := by simp [jumpRel]
@[simp] theorem callTo_control (a : Addr) (s : State) : (callTo a s).control = s.control := by simp [callTo]
@[simp] theorem call_control (a : Addr) (s : State) : (call a s).control = s.control := by simp [call]
@[simp] theorem popPc_control (s : State) : (popPc s).control = s.control := by simp [popPc]
@[simp] theorem ret_control (s : State) : (ret s).control = s.control := by simp [ret]
@[simp] theorem restart_control (t : BitVec 3) (s : State) : (restart t s).control = s.control := by simp [restart]
@[simp] theorem shiftLoc_control (op : ShiftOp) (l : Loc) (s : State) : (shiftLoc op l s).control = s.control := by simp [shiftLoc]
@[simp] theorem testBit_control (b : BitVec 3) (l : Loc) (s : State) : (testBit b l s).control = s.control := by simp [testBit]
@[simp] theorem clearBit_control (b : BitVec 3) (l : Loc) (s : State) : (clearBit b l s).control = s.control := by simp [clearBit]
@[simp] theorem raiseBit_control (b : BitVec 3) (l : Loc) (s : State) : (raiseBit b l s).control = s.control := by simp [raiseBit]
@[simp] theorem idle_control (s : State) : (idle s).control = s.control := by simp [idle]
@[simp] theorem unassigned_control (op : Byte) (s : State) : (unassigned op s).control = s.control := by simp [unassigned]

@[simp] theorem jumpIf_control (cc : Cond) (a : Addr) (s : State) : (jumpIf cc a s).control = s.control := by
  unfold jumpIf; split <;> simp

@[simp] theorem jumpRelIf_control (cc : Cond) (e : Byte) (s : State) : (jumpRelIf cc e s).control = s.control := by
  unfold jumpRelIf; split <;> simp

@[simp] theorem callIf_control (cc : Cond) (a : Addr) (s : State) : (callIf cc a s).control = s.control := by
  unfold callIf; split <;> simp

@[simp] theorem retIf_control (cc : Cond) (s : State) : (retIf cc s).control = s.control := by
  unfold retIf; split <;> simp

@[simp] theorem runSecondary_control (cb : Byte) (s : State) : (runSecondary cb s).control = s.control := by
  unfold runSecondary; dsimp only; split <;> simp

/-! ### `exec` -/

/-- An instruction that is none of the four writers leaves the three control bits alone. -/
theorem exec_control {i : Instr} {s t : State} (h : exec i s = .next t) (hhalt : i ≠ .halt) (hdi : i ≠ .di) (hei : i ≠ .ei)
    (hreti : i ≠ .reti) : t.control = s.control := by
  cases i
  case halt => exact absurd rfl hhalt
  case di => exact absurd rfl hdi
  case ei => exact absurd rfl hei
  case reti => exact absurd rfl hreti
  all_goals
    cases h
    simp

/-- Settles O8: the four writers by their meanings, every other instruction by `exec_control`. -/
theorem onlyTheirWritersChangeTheControlBits : Obligations.OnlyTheirWritersChangeTheControlBits := by
  unfold Obligations.OnlyTheirWritersChangeTheControlBits
  intro i s t h
  by_cases hhalt : i = .halt
  · subst hhalt; cases h; simp [enterHalt]
  by_cases hdi : i = .di
  · subst hdi; cases h; simp [disableInterrupts]
  by_cases hei : i = .ei
  · subst hei; cases h; simp [armInterrupts]
  by_cases hreti : i = .reti
  · subst hreti; cases h; simp [retInterrupt, returnFromInterrupt, dropWord]
  obtain ⟨hime, hdelay, hhalted⟩ := (State.control_eq_iff s t).1 (exec_control h hhalt hdi hei hreti)
  exact ⟨absurd hhalted, absurd hime, absurd hdelay⟩

end Sys2Proof.Machine
end

section
/-! Reset (10_state.md R48) and the register file's views (10_state.md R10 to R12). -/

namespace Sys2Proof.Machine

/-! ### Reset -/

/-- Settles O10: each field of the reset record, by evaluation. -/
theorem resetGivesTheDecidedValues : Obligations.ResetGivesTheDecidedValues := by
  unfold Obligations.ResetGivesTheDecidedValues
  rintro mem fb cart _ rfl
  and_intros <;> rfl

/-- Of the memories the invariant asks the canonical form and the addresses of storage; of the frame buffer and the cartridge
nothing. -/
theorem resetWith_inv {mem : Memory} (fb : FrameBuffer) (cart : Cart) (hmem : mem.wf = true)
    (hstore : ∀ cell ∈ mem, backed cell.1 = true) : Inv (State.resetWith mem fb cart) where
  flagsLow := (by decide : (0xB0 : Byte) &&& 0x0F = 0)
  delay := Nat.zero_le 2
  line := Nat.zero_le 153
  dots := Nat.zero_le 455
  mirror := (by decide : (0x81 : Byte) &&& 0x03 = modeCode .vblank)
  window := Nat.le_refl 0
  sprites := Nat.zero_le 10
  divider := Nat.zero_lt_succ 63
  counter h := absurd h (by decide : ¬ timerEnabled 0 = true)
  canonical := hmem
  storage := hstore
  requests := ⟨rfl, rfl, rfl⟩

theorem resetWith_ppuTiming (mem : Memory) (fb : FrameBuffer) (cart : Cart) : PpuTiming (State.resetWith mem fb cart) where
  line := Nat.zero_le 153
  dots := Nat.zero_le 455
  aligned := rfl
  mode := .inr rfl

/-- Settles O11: `State.reset` is the case of blank memories. -/
theorem invariantsHoldAtReset : Obligations.InvariantsHoldAtReset := by
  unfold Obligations.InvariantsHoldAtReset
  exact ⟨fun mem fb cart hmem hstore => ⟨resetWith_inv fb cart hmem hstore, resetWith_ppuTiming mem fb cart⟩,
    resetWith_inv _ _ State.reset_mem_wf (by simp), resetWith_ppuTiming _ _ _⟩

/-! ### The register file -/

theorem State.setR8_frame (s : State) (d : R8) (v : Byte) :
    s.setR8 d v =
      { s with
        cpu := { (s.setR8 d v).cpu with
          f := s.cpu.f, sp := s.cpu.sp, pc := s.cpu.pc, ime := s.cpu.ime, imeDelay := s.cpu.imeDelay
          halted := s.cpu.halted, cycles := s.cpu.cycles } } := by
  cases d <;> rfl

/-- Writing a pair writes its two halves, the first-named the high byte. -/
theorem State.setR16_halves (s : State) (v : Addr) :
    s.setR16 .BC v = { s with cpu.b := BitVec.ofNat 8 (v.toNat / 256), cpu.c := BitVec.ofNat 8 (v.toNat % 256) }
      ∧ s.setR16 .DE v = { s with cpu.d := BitVec.ofNat 8 (v.toNat / 256), cpu.e := BitVec.ofNat 8 (v.toNat % 256) }
      ∧ s.setR16 .HL v = { s with cpu.h := BitVec.ofNat 8 (v.toNat / 256), cpu.l := BitVec.ofNat 8 (v.toNat % 256) } := by
  rw [← hi_eq, ← lo_eq]
  exact ⟨rfl, rfl, rfl⟩

/-- Writing AF writes A and F, F's low nibble masked (10_state.md R12). -/
theorem State.setR16Stk_af (s : State) (v : Addr) :
    s.setR16Stk .AF v =
      { s with cpu.a := BitVec.ofNat 8 (v.toNat / 256), cpu.f := BitVec.ofNat 8 (v.toNat % 256) &&& 0xF0 } := by
  rw [← hi_eq, ← lo_eq]
  rfl

/-- Writing back what a pair reads changes nothing (10_state.md R11). -/
theorem State.setR16_getR16 (s : State) (p : R16) : s.setR16 p (s.getR16 p) = s := by
  cases p <;> simp [State.setR16, State.getR16, State.bc, State.de, State.hl, State.setHl, State.setSp]

/-- The mask on a write to F keeps an F whose low nibble is zero. -/
theorem and_mask_high {f : Byte} (h : f &&& 0x0F = 0) : f &&& 240#8 = f :=
  calc f &&& 240#8 = f &&& 240#8 ||| f &&& 0x0F := by rw [h]; exact BitVec.or_zero.symm
    _ = f &&& (240#8 ||| 0x0F) := BitVec.and_or_distrib_left.symm
    _ = f := BitVec.and_allOnes

/-- And so for the pairs PUSH and POP name, AF being one of them where F has its form. -/
theorem State.setR16Stk_getR16Stk (s : State) (h : s.cpu.f &&& 0x0F = 0) (p : R16Stk) : s.setR16Stk p (s.getR16Stk p) = s := by
  cases p with
  | BC => exact s.setR16_getR16 .BC
  | DE => exact s.setR16_getR16 .DE
  | HL => exact s.setR16_getR16 .HL
  | AF => simp [State.setR16Stk, State.getR16Stk, State.af, State.setA, State.setF, and_mask_high h]

/-- Settles O31: the accessors read and write the fields they name, and the laws above say the rest. -/
theorem registersAndPairsAreViewsOfOneFile : Obligations.RegistersAndPairsAreViewsOfOneFile := by
  unfold Obligations.RegistersAndPairsAreViewsOfOneFile
  intro s
  refine ⟨⟨rfl, rfl, rfl, rfl, rfl, rfl, rfl⟩, s.getR8_setR8, s.setR8_frame,
    ⟨join_toNat _ _, join_toNat _ _, join_toNat _ _, join_toNat _ _⟩, ⟨rfl, rfl, rfl, rfl, rfl, rfl, rfl, rfl⟩, fun v => ?_,
    ⟨fun _ => rfl, rfl, fun _ => rfl, fun _ => rfl⟩, s.setR16_getR16, s.setR16Stk_getR16Stk⟩
  obtain ⟨hbc, hde, hhl⟩ := s.setR16_halves v
  exact ⟨hbc, hde, hhl, rfl, rfl, rfl, rfl, rfl, s.setR16Stk_af v⟩

end Sys2Proof.Machine
end

section
/-! The bus by region and by I/O register, OAM DMA, and the reach of a store (20_memory.md R50 to R71). -/

namespace Sys2Proof.Machine

/-! ### Plain storage, open or closed by the mode -/

/-- The address is a byte of storage that the mode leaves open to the bus (20_memory.md R53, R55, R57, R62). -/
def StorageOpen (m : Mode) (a : Addr) : Prop :=
  regionOf a = .wram ∨ regionOf a = .hram ∨ (regionOf a = .vram ∧ vramLocked m = false)
    ∨ (regionOf a = .oam ∧ oamLocked m = false)

/-- The address is a byte of storage that the mode closes to the bus (20_memory.md R53, R57). -/
def StorageClosed (m : Mode) (a : Addr) : Prop :=
  (regionOf a = .vram ∧ vramLocked m = true) ∨ (regionOf a = .oam ∧ oamLocked m = true)

theorem busRead_open {s : State} {a : Addr} (h : StorageOpen s.ppu.mode a) : busRead s a = s.mem.read a.toNat := by
  rcases h with hr | hr | ⟨hr, hl⟩ | ⟨hr, hl⟩
  · simp [busRead, hr]
  · simp [busRead, hr]
  · simp [busRead, hr, hl]
  · simp [busRead, hr, hl]

theorem busWrite_open {s : State} {a : Addr} (v : Byte) (h : StorageOpen s.ppu.mode a) :
    busWrite s a v = s.storeByte a.toNat v := by
  rcases h with hr | hr | ⟨hr, hl⟩ | ⟨hr, hl⟩
  · simp [busWrite, hr]
  · simp [busWrite, hr]
  · simp [busWrite, hr, hl]
  · simp [busWrite, hr, hl]

/-- An open byte reads as stored, a write stores, and is read back. -/
theorem bus_open {s : State} {a : Addr} (v : Byte) (h : StorageOpen s.ppu.mode a) :
    busRead s a = s.mem.read a.toNat ∧ busWrite s a v = { s with mem := s.mem.write a.toNat v }
      ∧ busRead (busWrite s a v) a = v := by
  refine ⟨busRead_open h, busWrite_open v h, ?_⟩
  have h' : StorageOpen (s.storeByte a.toNat v).ppu.mode a := h
  rw [busWrite_open v h, busRead_open h', State.storeByte_mem, Memory.read_write_same]

theorem bus_closed {s : State} {a : Addr} (v : Byte) (h : StorageClosed s.ppu.mode a) :
    busRead s a = 0xFF ∧ busWrite s a v = s := by
  rcases h with ⟨hr, hl⟩ | ⟨hr, hl⟩
  · simp [busRead, busWrite, hr, hl, refusedRead]
  · simp [busRead, busWrite, hr, hl, refusedRead]

theorem vramLocked_iff (m : Mode) : vramLocked m = true ↔ m = .draw := by simp [vramLocked]

theorem oamLocked_iff (m : Mode) : oamLocked m = true ↔ m = .draw ∨ m = .oamScan := by
  simp [oamLocked, or_comm]

theorem oamUnlocked_iff (m : Mode) : oamLocked m = false ↔ m = .hblank ∨ m = .vblank := by
  cases m <;> decide

/-- Settles O22: each clause is an open or a closed byte, by its range and the mode. -/
theorem storageRegionsObeyTheirLocks : Obligations.StorageRegionsObeyTheirLocks := by
  unfold Obligations.StorageRegionsObeyTheirLocks
  intro s a v
  refine ⟨fun hl hu => ?vram, fun hl hu => ?oam, fun h => ?plain, ?ie⟩
  case vram =>
    have hr := (regionOf_vram a).2 ⟨hl, hu⟩
    rw [Ne, ← vramLocked_iff, Bool.not_eq_true]
    exact ⟨fun hm => bus_closed v (.inl ⟨hr, hm⟩), fun hm => bus_open v (.inr (.inr (.inl ⟨hr, hm⟩)))⟩
  case oam =>
    have hr := (regionOf_oam a).2 ⟨hl, hu⟩
    rw [← oamLocked_iff, ← oamUnlocked_iff]
    exact ⟨fun hm => bus_closed v (.inr ⟨hr, hm⟩), fun hm => bus_open v (.inr (.inr (.inr ⟨hr, hm⟩)))⟩
  case plain =>
    rw [← regionOf_wram, ← regionOf_hram] at h
    exact bus_open v (h.imp_right .inl)
  case ie =>
    rintro rfl
    exact ⟨rfl, rfl⟩

/-! ### The cartridge and the ranges nobody owns -/

theorem cartridgeOwns_iff (a : Addr) : cartridgeOwns a = true ↔ regionOf a = .rom ∨ regionOf a = .extRam := by
  simp [cartridgeOwns]

theorem busRead_cartridge (s : State) {a : Addr} (h : cartridgeOwns a = true) : busRead s a = cartRead s a := by
  rcases (cartridgeOwns_iff a).1 h with hr | hr <;> simp [busRead, hr]

theorem busWrite_cartridge (s : State) {a : Addr} (v : Byte) (h : cartridgeOwns a = true) :
    busWrite s a v = cartWrite s a v := by
  rcases (cartridgeOwns_iff a).1 h with hr | hr <;> simp [busWrite, hr]

/-- The I/O page holds registers in these places only (20_memory.md R59). -/
theorem ioOffset_ranges (r : IoReg) :
    (0x01 ≤ ioOffset r ∧ ioOffset r ≤ 0x02) ∨ (0x04 ≤ ioOffset r ∧ ioOffset r ≤ 0x07) ∨ ioOffset r = 0x0F
      ∨ (0x40 ≤ ioOffset r ∧ ioOffset r ≤ 0x4B) := by
  cases r <;> decide

/-- Nobody owns the address (20_memory.md R56, R58, R61). -/
def Unowned (a : Addr) : Prop :=
  regionOf a = .echo ∨ regionOf a = .unusable ∨ (regionOf a = .io ∧ ioRegOf a = none)

theorem bus_unowned (s : State) {a : Addr} (v : Byte) (h : Unowned a) : busRead s a = 0xFF ∧ busWrite s a v = s := by
  rcases h with hr | hr | ⟨hr, hn⟩
  · simp [busRead, busWrite, hr, Config.echoReadValue]
  · simp [busRead, busWrite, hr, Config.echoReadValue]
  · simp [busRead, busWrite, hr, hn, Config.echoReadValue]

/-- An I/O address outside the places of the registers is unmapped. -/
theorem unowned_of_io {a : Addr} (hio : regionOf a = .io) (h : ∀ r, a.toNat % 256 ≠ ioOffset r) : Unowned a := by
  refine .inr (.inr ⟨hio, ?_⟩)
  cases hr : ioRegOf a with
  | none => rfl
  | some r => exact absurd (ioRegOf_offset hr) (h r)

/-- Settles O23: the cartridge by its two kinds, the rest as unowned addresses. -/
theorem cartridgeAndUnownedRegions : Obligations.CartridgeAndUnownedRegions := by
  unfold Obligations.CartridgeAndUnownedRegions
  intro s a v
  refine ⟨fun h => ?cartridge, fun h => bus_unowned s v ?unowned⟩
  case cartridge =>
    rw [← regionOf_rom, ← regionOf_extRam, ← cartridgeOwns_iff] at h
    rw [busRead_cartridge s h, busWrite_cartridge s v h]
    exact ⟨fun hc => by simp [cartRead, cartWrite, hc], fun inner hc => by simp [cartRead, cartWrite, hc]⟩
  case unowned =>
    rcases h with h | h | h
    · exact .inl ((regionOf_echo a).2 h)
    · exact .inr (.inl ((regionOf_unusable a).2 h))
    · refine unowned_of_io ((regionOf_io a).2 (by omega)) fun r => ?_
      have := ioOffset_ranges r
      omega

/-! ### The I/O registers -/

/-- The address of an I/O register (20_memory.md R59). -/
def ioAddr (r : IoReg) : Addr := BitVec.ofNat 16 (0xFF00 + ioOffset r)

theorem regionOf_ioAddr (r : IoReg) : regionOf (ioAddr r) = .io := by cases r <;> rfl

theorem ioRegOf_ioAddr (r : IoReg) : ioRegOf (ioAddr r) = some r := by cases r <;> rfl

theorem busRead_ioAddr (s : State) (r : IoReg) : busRead s (ioAddr r) = ioRead s r := by
  simp [busRead, regionOf_ioAddr, ioRegOf_ioAddr]

theorem busWrite_ioAddr (s : State) (r : IoReg) (v : Byte) : busWrite s (ioAddr r) v = ioWrite s r v := by
  simp [busWrite, regionOf_ioAddr, ioRegOf_ioAddr]

/-- A read and a write at a register's address, together. -/
theorem bus_ioAddr (s : State) (r : IoReg) (v : Byte) :
    busRead s (ioAddr r) = ioRead s r ∧ busWrite s (ioAddr r) v = ioWrite s r v :=
  ⟨busRead_ioAddr s r, busWrite_ioAddr s r v⟩

/-- The DMA transfer changes no field of the PPU but the register itself. -/
theorem ioWrite_dma_ppu (s : State) (v : Byte) : (ioWrite s .dma v).ppu = { s.ppu with dma := v } := by
  obtain ⟨m, he, -, -⟩ := dmaCopy_mem v { s with ppu.dma := v }
  simp only [ioWrite, he]

/-- Settles O24: each row is the access at that register's address. -/
theorem ioRegistersReadAndWrite : Obligations.IoRegistersReadAndWrite := by
  unfold Obligations.IoRegistersReadAndWrite
  intro s v
  have hdma : (busWrite s 0xFF46 v).ppu = { s.ppu with dma := v } := by
    rw [show busWrite s 0xFF46 v = ioWrite s .dma v from busWrite_ioAddr s .dma v, ioWrite_dma_ppu]
  exact ⟨bus_ioAddr s .sb v, bus_ioAddr s .sc v, bus_ioAddr s .div v, bus_ioAddr s .tima v, bus_ioAddr s .tma v,
    bus_ioAddr s .tac v, bus_ioAddr s .ifReg v, bus_ioAddr s .lcdc v, bus_ioAddr s .stat v, bus_ioAddr s .scy v,
    bus_ioAddr s .scx v, bus_ioAddr s .ly v, bus_ioAddr s .lyc v, ⟨busRead_ioAddr s .dma, hdma⟩, bus_ioAddr s .bgp v,
    bus_ioAddr s .obp0 v, bus_ioAddr s .obp1 v, bus_ioAddr s .wy v, bus_ioAddr s .wx v⟩

/-! ### The interrupt flags -/

/-- The bit of IF that a request line sets. -/
def requestMask (line : Bool) (k : Nat) : Byte := if line then BitVec.twoPow 8 k else 0

theorem requestMask_getLsbD (line : Bool) {k : Nat} (n : Nat) (hk : k < 8) :
    (requestMask line k).getLsbD n = (n == k && line) := by
  cases line with
  | false => simp [requestMask]
  | true =>
    rw [requestMask, if_pos rfl, BitVec.getLsbD_twoPow, decide_eq_true hk, Bool.true_and, Bool.and_true, Bool.eq_iff_iff,
      decide_eq_true_iff, beq_iff_eq, eq_comm]

theorem latch_ifReg (s : State) :
    (latch s).bus.ifReg =
      s.bus.ifReg ||| (requestMask s.ppu.vblankReq 0 ||| requestMask s.ppu.statReq 1 ||| requestMask s.timer.req 2) :=
  rfl

/-- The latch bit by bit (20_memory.md R66). -/
theorem latch_ifReg_getLsbD (s : State) (n : Nat) :
    (latch s).bus.ifReg.getLsbD n =
      (s.bus.ifReg.getLsbD n || (n == 0 && s.ppu.vblankReq) || (n == 1 && s.ppu.statReq) || (n == 2 && s.timer.req)) := by
  rw [latch_ifReg]
  simp [requestMask_getLsbD, Bool.or_assoc]

/-- Settles O18: the CPU's write and the dispatch as the model writes them, the latch bit by bit. -/
theorem interruptFlagWriters : Obligations.InterruptFlagWriters := by
  unfold Obligations.InterruptFlagWriters
  exact fun s => ⟨busWrite_ioAddr s .ifReg, fun _ => rfl, rfl, latch_ifReg_getLsbD s⟩

/-! ### OAM DMA -/

/-- The first `k` bytes of the copy of 20_memory.md R71. -/
def dmaFirst (v : Byte) (k : Nat) (s : State) : State :=
  (List.range k).foldl (fun t i => t.storeByte (oamAddr i) (busRead t (dmaSource v i))) s

theorem dmaCopy_eq_dmaFirst (v : Byte) (s : State) : dmaCopy v s = dmaFirst v 160 s := rfl

theorem dmaFirst_succ (v : Byte) (k : Nat) (s : State) :
    dmaFirst v (k + 1) s = (dmaFirst v k s).storeByte (oamAddr k) (busRead (dmaFirst v k s) (dmaSource v k)) := by
  simp [dmaFirst, List.range_succ]

theorem dmaSource_eq (v : Byte) (i : Nat) : dmaSource v i = BitVec.ofNat 16 (256 * v.toNat + i) := by
  apply BitVec.eq_of_toNat_eq
  simp [dmaSource, join_toNat]

/-- A source is no byte copied before its own turn: source and destination have the same offset in their pages. -/
theorem dmaSource_ne_oamAddr {v : Byte} {i j : Nat} (hj : j < i) (hi : i < 160) : (dmaSource v i).toNat ≠ oamAddr j := by
  have hv := v.isLt
  rw [dmaSource_eq, BitVec.toNat_ofNat, oamAddr]
  omega

/-- Every address but those copied to reads as before the copy. -/
theorem busRead_dmaFirst {v : Byte} {k : Nat} {s : State} {a : Addr} (h : ∀ j < k, a.toNat ≠ oamAddr j) :
    busRead (dmaFirst v k s) a = busRead s a := by
  induction k with
  | zero => rfl
  | succ k ih =>
    rw [dmaFirst_succ, busRead_storeByte _ _ _ _ (h k k.lt_succ_self), ih fun j hj => h j (Nat.lt_succ_of_lt hj)]

/-- Each byte copied is what its source read before the copy began. -/
theorem dmaFirst_copied {v : Byte} {k i : Nat} {s : State} (hk : k ≤ 160) (hi : i < k) :
    (dmaFirst v k s).mem.read (oamAddr i) = busRead s (dmaSource v i) := by
  induction k with
  | zero => exact absurd hi (Nat.not_lt_zero i)
  | succ k ih =>
    rw [dmaFirst_succ, State.storeByte_mem]
    rcases Nat.lt_succ_iff_lt_or_eq.1 hi with hlt | rfl
    · rw [Memory.read_write_other _ _ (by unfold oamAddr; omega), ih (by omega) hlt]
    · rw [Memory.read_write_same, busRead_dmaFirst fun j hj => dmaSource_ne_oamAddr hj (by omega)]

/-- Outside OAM the copy changes nothing. -/
theorem dmaCopy_read_outside_oam (v : Byte) (s : State) {n : Nat} (h : n < 0xFE00 ∨ 0xFE9F < n) :
    (dmaCopy v s).mem.read n = s.mem.read n :=
  dma_read_other v _ s n fun i hi => by
    have := List.mem_range.1 hi
    omega

/-- Settles O25: the copy changes memory only; no source is a byte copied before it. -/
theorem dmaCopiesOneHundredAndSixtyBytes : Obligations.DmaCopiesOneHundredAndSixtyBytes := by
  unfold Obligations.DmaCopiesOneHundredAndSixtyBytes
  rintro s d v rfl
  rw [show busWrite s 0xFF46 v = dmaCopy v { s with ppu.dma := v } from busWrite_ioAddr s .dma v]
  refine ⟨?frame, fun i hi => ?copied, fun n hn => dmaCopy_read_outside_oam v _ hn⟩
  case frame =>
    obtain ⟨m, he, -, -⟩ := dmaCopy_mem v { s with ppu.dma := v }
    rw [he]
  case copied =>
    rw [dmaCopy_eq_dmaFirst, ← dmaSource_eq]
    exact dmaFirst_copied (Nat.le_refl 160) hi

/-! ### The reach of a store -/

/-- What a bus write can do (20_memory.md R65). -/
theorem busWrite_cases (s : State) (a : Addr) (v : Byte) :
    busWrite s a v = s ∨ busWrite s a v = s.storeByte a.toNat v
      ∨ (cartridgeOwns a = true ∧ busWrite s a v = cartWrite s a v)
      ∨ (∃ r, regionOf a = .io ∧ ioRegOf a = some r ∧ busWrite s a v = ioWrite s r v)
      ∨ (regionOf a = .ie ∧ busWrite s a v = { s with bus.ieReg := v }) := by
  cases hr : regionOf a with
  | rom | extRam => exact .inr (.inr (.inl ⟨by simp [cartridgeOwns, hr], by simp [busWrite, hr]⟩))
  | wram | hram => exact .inr (.inl (by simp [busWrite, hr]))
  | vram => cases hl : vramLocked s.ppu.mode <;> simp [busWrite, hr, hl]
  | oam => cases hl : oamLocked s.ppu.mode <;> simp [busWrite, hr, hl]
  | echo | unusable => exact .inl (by simp [busWrite, hr])
  | io => cases hq : ioRegOf a <;> simp [busWrite, hr, hq]
  | ie => simp [busWrite, hr]

/-- Only the cartridge's own addresses see the cartridge. -/
theorem busRead_cartWrite (s : State) (addr : Addr) (v : Byte) {a : Addr}
    (h : s.cart ≠ .flatRom → cartridgeOwns a = false) : busRead (cartWrite s addr v) a = busRead s a := by
  unfold cartWrite
  cases hc : s.cart with
  | flatRom => rfl
  | attached inner =>
    have ha : cartridgeOwns a = false := h (by simp [hc])
    unfold busRead
    cases hr : regionOf a
    case rom | extRam => simp [cartridgeOwns, hr] at ha
    all_goals rfl

/-- Only IE's own address sees IE. -/
theorem busRead_setIe (s : State) (v : Byte) {a : Addr} (h : regionOf a ≠ .ie) :
    busRead { s with bus.ieReg := v } a = busRead s a := by
  unfold busRead
  cases hr : regionOf a
  case ie => exact absurd hr h
  all_goals rfl

/-- A register is at its own address only. -/
theorem eq_ioAddr {a : Addr} {r : IoReg} (hio : regionOf a = .io) (hr : ioRegOf a = some r) : a = ioAddr r := by
  have hpage := (regionOf_io a).1 hio
  have hoff := ioRegOf_offset hr
  apply BitVec.eq_of_toNat_eq
  rw [ioAddr, BitVec.toNat_ofNat]
  omega

/-- An I/O write leaves IE, the cartridge, and of memory what the DMA transfer does not copy to. -/
theorem ioWrite_storage (s : State) (r : IoReg) (v : Byte) {n : Nat} (h : r = .dma → n < 0xFE00 ∨ 0xFE9F < n) :
    (ioWrite s r v).bus.ieReg = s.bus.ieReg ∧ (ioWrite s r v).mem.read n = s.mem.read n
      ∧ (ioWrite s r v).cart = s.cart := by
  cases r
  case dma =>
    obtain ⟨m, he, -, -⟩ := dmaCopy_mem v { s with ppu.dma := v }
    exact ⟨by simp only [ioWrite, he], dmaCopy_read_outside_oam v _ (h rfl), by simp only [ioWrite, he]⟩
  all_goals exact ⟨rfl, rfl, rfl⟩

/-- An I/O write leaves every address but its own reading as before, OAM too unless it starts a DMA transfer. -/
theorem busRead_ioWrite (s : State) {r : IoReg} (v : Byte) {a : Addr} (ha : a ≠ ioAddr r) (hdma : r = .dma → regionOf a ≠ .oam) :
    busRead (ioWrite s r v) a = busRead s a := by
  by_cases hio : regionOf a = .io
  · rw [busRead_io _ hio, busRead_io _ hio]
    cases hq : ioRegOf a with
    | none => rfl
    | some q =>
      have hqr : q ≠ r := by
        rintro rfl
        exact ha (eq_ioAddr hio hq)
      exact ioRead_ioWrite_other s v hqr
  · obtain ⟨hie, hmem, hcart⟩ := ioWrite_storage s r v (n := a.toNat) fun hr => by
      have := hdma hr
      rw [Ne, regionOf_oam] at this
      omega
    exact busRead_outside_io hio hie (ioWrite_keeps s r v).devices.mode hmem hcart

/-- Settles O26: the cases of `busWrite_cases`, each by what a read sees. -/
theorem storesChangeOnlyWhatTheyReach : Obligations.StoresChangeOnlyWhatTheyReach := by
  unfold Obligations.StoresChangeOnlyWhatTheyReach StoreReaches
  intro s addr a v h
  simp only [not_or, not_and] at h
  obtain ⟨hne, hoam, hcart⟩ := h
  rcases busWrite_cases s addr v with he | he | ⟨ho, he⟩ | ⟨r, hio, hr, he⟩ | ⟨hie, he⟩ <;> rw [he]
  · exact busRead_storeByte s _ v a (mt BitVec.eq_of_toNat_eq hne)
  · exact busRead_cartWrite s addr v fun hc => Bool.eq_false_iff.2 (hcart hc ho)
  · obtain rfl := eq_ioAddr hio hr
    refine busRead_ioWrite s v hne ?_
    rintro rfl
    exact hoam rfl
  · refine busRead_setIe s v fun ha => hne (BitVec.eq_of_toNat_eq ?_)
    rw [(regionOf_ie a).1 ha, (regionOf_ie addr).1 hie]

end Sys2Proof.Machine
end

section
/-! Decoding and encoding by the opcode maps (30_encoding.md R91 to R101, 47_system.md R266). -/

namespace Sys2Proof.Machine

/-! ### One instruction at a time: what `encode` writes, `decode` reads -/

/-- The four values of a 2-bit field, as a case split. -/
theorem class_cases {P : BitVec 2 → Prop} (zero : P 0) (one : P 1) (two : P 2) (three : P 3) (i : BitVec 2) : P i := by
  have h : i = 0 ∨ i = 1 ∨ i = 2 ∨ i = 3 := by
    revert i
    decide
  rcases h with rfl | rfl | rfl | rfl <;> assumption

/-- The eight values of a 3-bit field, as a case split. -/
theorem field_cases {P : BitVec 3 → Prop} (zero : P 0) (one : P 1) (two : P 2) (three : P 3) (four : P 4) (five : P 5)
    (six : P 6) (seven : P 7) (i : BitVec 3) : P i := by
  have h : i = 0 ∨ i = 1 ∨ i = 2 ∨ i = 3 ∨ i = 4 ∨ i = 5 ∨ i = 6 ∨ i = 7 := by
    revert i
    decide
  rcases h with rfl | rfl | rfl | rfl | rfl | rfl | rfl | rfl <;> assumption

/-- A 16-bit operand stands low byte first (30_encoding.md R91). -/
theorem decode_imm16 {op : Byte} {f : Addr → Instr} (h : primaryMap op = .imm16 f) (v : Addr) (rest : List Byte) :
    decode (op :: lo v :: hi v :: rest) = .ok (f v, rest) := by
  simp only [decode, h, join_hi_lo]

/-- Settles O1: a 16-bit operand is joined again from its two bytes, a bit index is read back at each of its eight values,
and any other instruction's first byte, or the byte after 0xCB, is its own place in the map. -/
theorem decodeInvertsEncode : Obligations.DecodeInvertsEncode := by
  unfold Obligations.DecodeInvertsEncode
  intro i hwf rest
  cases i
  case prefixCb => cases hwf
  case ldBcD16 v | ldDeD16 v | ldHlD16 v | ldSpD16 v | ldMemA16Sp v | ldMemA16A v | ldAMemA16 v | jpA16 v | jpNzA16 v | jpZA16 v
      | jpNcA16 v | jpCA16 v | callA16 v | callNzA16 v | callZA16 v | callNcA16 v | callCA16 v =>
    exact decode_imm16 rfl v rest
  case bitB b | bitC b | bitD b | bitE b | bitH b | bitL b | bitMemHl b | bitA b | resB b | resC b | resD b | resE b | resH b
      | resL b | resMemHl b | resA b | setB b | setC b | setD b | setE b | setH b | setL b | setMemHl b | setA b =>
    cases b using field_cases <;> rfl
  all_goals rfl

/-! ### One opcode at a time: what `decode` reads, `encode` writes -/

/-- Bytes that begin with `op` and are of this shape are the encodings of its instructions, and as many as the length table
says (30_encoding.md R98). -/
inductive Spells : Byte → Shape → Prop
  | op {op : Byte} {i : Instr} (bytes : encode i = [op]) (wf : i.wf = true) (length : lengthOfFirst op = 1) :
    Spells op (.op i)
  | imm8 {op : Byte} {f : Byte → Instr} (bytes : ∀ v, encode (f v) = [op, v]) (wf : ∀ v, (f v).wf = true)
    (length : lengthOfFirst op = 2) : Spells op (.imm8 f)
  | imm16 {op : Byte} {f : Addr → Instr} (bytes : ∀ v, encode (f v) = [op, lo v, hi v]) (wf : ∀ v, (f v).wf = true)
    (length : lengthOfFirst op = 3) : Spells op (.imm16 f)
  | secondary : Spells 0xCB .secondary

/-- A byte is its three fields (30_encoding.md R92). -/
theorem byte_fields (v : Byte) : v = v.extractLsb' 6 2 ++ v.extractLsb' 3 3 ++ v.extractLsb' 0 3 := by
  revert v
  decide

/-- The primary map, field by field: the entry's shape picks the case of `Spells` (30_encoding.md R94). -/
theorem primaryMap_spells (op : Byte) : Spells op (primaryMap op) := by
  rw [byte_fields op]
  generalize op.extractLsb' 6 2 = quarter
  generalize op.extractLsb' 3 3 = row
  generalize op.extractLsb' 0 3 = column
  cases quarter using class_cases
  all_goals cases row using field_cases
  all_goals cases column using field_cases
  all_goals constructor <;> intros <;> rfl

/-- The secondary map, entry by entry (30_encoding.md R96). -/
theorem encode_secondaryMap : ∀ cb : Byte, encode (secondaryMap cb) = [0xCB, cb] ∧ (secondaryMap cb).wf = true := by decide

/-- Decoding answers a well-formed instruction whose encoding stands at the head of the bytes and is as long as the first
byte says, or finds too few bytes for that length. -/
theorem decode_cons (op : Byte) (tail : List Byte) :
    (∃ i rest, decode (op :: tail) = .ok (i, rest) ∧ i.wf = true ∧ encode i ++ rest = op :: tail
        ∧ (encode i).length = lengthOfFirst op)
      ∨ (decode (op :: tail) = .error .missingOperand ∧ tail.length + 1 < lengthOfFirst op) := by
  have hs := primaryMap_spells op
  unfold decode
  dsimp only
  generalize primaryMap op = shape at hs
  cases hs with
  | op bytes wf length => exact .inl ⟨_, _, rfl, wf, by rw [bytes]; rfl, by rw [bytes, length]; rfl⟩
  | imm8 bytes wf length =>
    cases tail with
    | nil => exact .inr ⟨rfl, by rw [length]; decide⟩
    | cons v rest => exact .inl ⟨_, _, rfl, wf v, by rw [bytes]; rfl, by rw [bytes, length]; rfl⟩
  | imm16 bytes wf length =>
    match tail with
    | [] | [_] => exact .inr ⟨rfl, by simp [length]⟩
    | l :: h :: rest =>
      exact .inl ⟨_, _, rfl, wf _, by rw [bytes, lo_join, hi_join]; rfl, by rw [bytes, length]; rfl⟩
  | secondary =>
    cases tail with
    | nil => exact .inr ⟨rfl, by decide⟩
    | cons cb rest =>
      obtain ⟨bytes, wf⟩ := encode_secondaryMap cb
      exact .inl ⟨_, _, rfl, wf, by rw [bytes]; rfl, by rw [bytes]; rfl⟩

theorem lengthOfFirst_pos (op : Byte) : 0 < lengthOfFirst op := by
  unfold lengthOfFirst
  split
  · decide
  · split <;> decide

/-- Settles O2: the answer is the one instruction `decode_cons` finds at the head of the bytes. -/
theorem encodeInvertsDecode : Obligations.EncodeInvertsDecode := by
  unfold Obligations.EncodeInvertsDecode
  intro bytes rest i h
  cases bytes with
  | nil => cases h
  | cons op tail =>
    obtain ⟨j, rest', hok, hwf, hbytes, -⟩ | ⟨herr, -⟩ := decode_cons op tail
    · cases hok.symm.trans h
      exact ⟨hwf, hbytes⟩
    · cases herr.symm.trans h

/-- Settles O3: of the two answers of `decode_cons`, the number of bytes there excludes one. -/
theorem decodingTakesTheLengthOfTheFirstByte : Obligations.DecodingTakesTheLengthOfTheFirstByte := by
  unfold Obligations.DecodingTakesTheLengthOfTheFirstByte
  intro op tail
  obtain ⟨i, rest, hok, -, hbytes, hlen⟩ | ⟨herr, hshort⟩ := decode_cons op tail
  · have hcount := congrArg List.length hbytes
    rw [List.length_append, List.length_cons, hlen] at hcount
    have hrest : rest = tail.drop (lengthOfFirst op - 1) :=
      calc rest = (encode i ++ rest).drop (lengthOfFirst op) := (List.drop_left' hlen).symm
        _ = tail.drop (lengthOfFirst op - 1) := by rw [hbytes, List.drop_cons (lengthOfFirst_pos op)]
    exact ⟨fun _ => ⟨i, hrest ▸ hok, hlen⟩, fun hshort => by omega⟩
  · exact ⟨fun henough => by omega, fun _ => herr⟩

/-- Settles O4: each word by running the decoder. -/
theorem wordsFromTheMapsDecode : Obligations.WordsFromTheMapsDecode := by
  unfold Obligations.WordsFromTheMapsDecode
  exact ⟨rfl, rfl, rfl, rfl, rfl, rfl, rfl, rfl, rfl, rfl, rfl, rfl, rfl⟩

/-! ### The byte 0xCB -/

/-- An instruction of the secondary map does what `runSecondary` reads from the fields of its byte: class, bit index or
sub-operation, operand (30_encoding.md R96). -/
theorem exec_secondaryMap (cb : Byte) (s : State) : exec (secondaryMap cb) s = .next (runSecondary cb s) := by
  unfold secondaryMap runSecondary
  generalize cb.extractLsb' 0 3 = operand
  generalize cb.extractLsb' 3 3 = b
  generalize cb.extractLsb' 6 2 = group
  cases group using class_cases
  case zero => cases b using field_cases <;> cases operand using field_cases <;> rfl
  all_goals cases operand using field_cases <;> rfl

/-- Settles O57: decoding reaches the secondary map by definition, and `exec_secondaryMap` says what its entries do. -/
theorem prefixSelectsTheSecondaryTable : Obligations.PrefixSelectsTheSecondaryTable := by
  unfold Obligations.PrefixSelectsTheSecondaryTable
  exact fun s cb => ⟨fun _ => rfl, runSecondary cb s, rfl, exec_secondaryMap cb s⟩

end Sys2Proof.Machine
end

section
/-! The shape of an instruction's statement: its encoding, and a next state of register updates or of one store. -/

namespace Sys2Proof

/-- The encoder's bytes of a well-formed instruction are its whole encoding (30_encoding.md R91 to R96). -/
theorem EncodedAs.of_encode {i : Instr} {bytes : List Byte} (hbytes : encode i = bytes) (hwf : i.wf = true) :
    EncodedAs i bytes :=
  hbytes ▸ Machine.decodeInvertsEncode i hwf

end Sys2Proof

namespace Sys2Proof.Machine

/-- One bus write and any register updates leave every address the store does not reach reading as before. -/
theorem StoresByte.of {i : Instr} {s : State} {addr : Addr} {v : Byte} {c : Cpu}
    (h : exec i s = .next { busWrite s addr v with cpu := c }) : StoresByte i s addr v c :=
  ⟨h, fun a => storesChangeOnlyWhatTheyReach s addr a v⟩

/-- A meaning that is one bus write and its M-cycles. -/
theorem StoresByte.of_took {i : Instr} {s : State} {addr : Addr} {v : Byte} {n : Nat}
    (h : exec i s = .next ((busWrite s addr v).took n)) : StoresByte i s addr v { s.cpu with cycles := n } :=
  .of (h.trans (congrArg _ (took_busWrite s addr v n)))

/-- A write to one register that ends a meaning. -/
theorem took_setR8 (s : State) (d : R8) (v : Byte) (n : Nat) :
    (s.setR8 d v).took n = { s with cpu := { (s.setR8 d v).cpu with cycles := n } } := by
  cases d <;> rfl

/-- A meaning that is a write to one register and its M-cycles. -/
theorem RegistersOnly.of_setR8 {i : Instr} {s : State} {d : R8} {v : Byte} {n : Nat}
    (h : exec i s = .next ((s.setR8 d v).took n)) : RegistersOnly i s { (s.setR8 d v).cpu with cycles := n } :=
  .of (h.trans (congrArg _ (took_setR8 s d v n)))

end Sys2Proof.Machine
end

section
/-! The 8-bit loads (40_loads_8bit.md R121 to R139): which shared meaning each form has and how it is encoded, and then what
the shared meanings do. -/

namespace Sys2Proof.Machine

/-! ### The forms over the register table -/

theorem exec_load (d r : R8) (s : State) : exec (Form.load d r) s = .next (ldRegReg d r s) := by
  cases d <;> cases r <;> rfl

theorem exec_loadImm (d : R8) (v : Byte) (s : State) : exec (Form.loadImm d v) s = .next (ldRegImm d v s) := by
  cases d <;> rfl

theorem exec_loadFromHl (d : R8) (s : State) : exec (Form.loadFromHl d) s = .next (ldRegMem d s) := by
  cases d <;> rfl

theorem exec_storeAtHl (r : R8) (s : State) : exec (Form.storeAtHl r) s = .next (ldMemReg r s) := by
  cases r <;> rfl

/-- `01dddsss` (40_loads_8bit.md R121). -/
theorem encodedAs_load (d r : R8) : EncodedAs (Form.load d r) [0x40 + 8 * d.code + r.code] := by
  cases d <;> cases r <;> exact .of_encode rfl rfl

/-- `00ddd110` and the operand (40_loads_8bit.md R122). -/
theorem encodedAs_loadImm (d : R8) (v : Byte) : EncodedAs (Form.loadImm d v) [0x06 + 8 * d.code, v] := by
  cases d <;> exact .of_encode rfl rfl

/-- `01ddd110` (40_loads_8bit.md R123). -/
theorem encodedAs_loadFromHl (d : R8) : EncodedAs (Form.loadFromHl d) [0x46 + 8 * d.code] := by
  cases d <;> exact .of_encode rfl rfl

/-- `01110sss` (40_loads_8bit.md R124). -/
theorem encodedAs_storeAtHl (r : R8) : EncodedAs (Form.storeAtHl r) [0x70 + r.code] := by
  cases r <;> exact .of_encode rfl rfl

/-- Settles O32: each form is a write to one register of the value its rule names. -/
theorem loadsIntoRegisters : Obligations.LoadsIntoRegisters := by
  unfold Obligations.LoadsIntoRegisters
  exact fun s d r v =>
    ⟨⟨encodedAs_load d r, .of_setR8 (exec_load d r s)⟩,
      ⟨encodedAs_loadImm d v, .of_setR8 (exec_loadImm d v s)⟩,
      ⟨encodedAs_loadFromHl d, .of_setR8 (exec_loadFromHl d s)⟩⟩

/-- Settles O33: each form is one bus write at HL. -/
theorem storesAtHl : Obligations.StoresAtHl := by
  unfold Obligations.StoresAtHl
  exact fun s r v =>
    ⟨⟨encodedAs_storeAtHl r, .of_took (exec_storeAtHl r s)⟩, ⟨.of_encode rfl rfl, .of_took rfl⟩⟩

/-! ### The accumulator and memory -/

theorem RegistersOnly.of_loadA {i : Instr} {s : State} {addr : Addr} {n : Nat} (h : exec i s = .next (loadA addr n s)) :
    RegistersOnly i s { s.cpu with a := busRead s addr, cycles := n } :=
  .of h

theorem StoresByte.of_storeA {i : Instr} {s : State} {addr : Addr} {n : Nat} (h : exec i s = .next (storeA addr n s)) :
    StoresByte i s addr s.cpu.a { s.cpu with cycles := n } :=
  .of_took h

/-- Settles O34: each is `loadA` at its address, the high page's addresses by `highPage_eq`. -/
theorem loadsOfTheAccumulator : Obligations.LoadsOfTheAccumulator := by
  unfold Obligations.LoadsOfTheAccumulator
  intro s a n
  simp only [← highPage_eq]
  exact
    ⟨⟨.of_encode rfl rfl, .of_loadA rfl⟩,
      ⟨.of_encode rfl rfl, .of_loadA rfl⟩,
      ⟨.of_encode rfl rfl, .of_loadA rfl⟩,
      ⟨.of_encode rfl rfl, .of_loadA rfl⟩,
      ⟨.of_encode rfl rfl, .of_loadA rfl⟩⟩

/-- Settles O35: each is `storeA` at its address, the high page's addresses by `highPage_eq`. -/
theorem storesOfTheAccumulator : Obligations.StoresOfTheAccumulator := by
  unfold Obligations.StoresOfTheAccumulator
  intro s a n
  simp only [← highPage_eq]
  exact
    ⟨⟨.of_encode rfl rfl, .of_storeA rfl⟩,
      ⟨.of_encode rfl rfl, .of_storeA rfl⟩,
      ⟨.of_encode rfl rfl, .of_storeA rfl⟩,
      ⟨.of_encode rfl rfl, .of_storeA rfl⟩,
      ⟨.of_encode rfl rfl, .of_storeA rfl⟩⟩

/-! ### The accumulator at a moving HL -/

/-- The store is at the old HL, and does not change the HL that moves. -/
theorem storeAMoveHl_eq (step : Addr) (s : State) :
    storeAMoveHl step s =
      { busWrite s s.hl s.cpu.a with cpu := { (s.setHl (s.hl + step)).cpu with cycles := 2 } } := by
  simp [storeAMoveHl, State.took, State.setHl, State.hl]

/-- The load is at the old HL, and a write to A does not change the HL that moves. -/
theorem loadAMoveHl_eq (step : Addr) (s : State) :
    loadAMoveHl step s =
      { s with cpu := { (s.setHl (s.hl + step)).cpu with a := busRead s s.hl, cycles := 2 } } := rfl

theorem StoresByte.of_storeAMoveHl {i : Instr} {s : State} {step : Addr} (h : exec i s = .next (storeAMoveHl step s)) :
    StoresByte i s s.hl s.cpu.a { (s.setHl (s.hl + step)).cpu with cycles := 2 } :=
  .of (h.trans (congrArg _ (storeAMoveHl_eq step s)))

theorem RegistersOnly.of_loadAMoveHl {i : Instr} {s : State} {step : Addr} (h : exec i s = .next (loadAMoveHl step s)) :
    RegistersOnly i s { (s.setHl (s.hl + step)).cpu with a := busRead s s.hl, cycles := 2 } :=
  .of (h.trans (congrArg _ (loadAMoveHl_eq step s)))

/-- Up by one modulo 2^16, as integers. -/
theorem eq_add_one {v up : Addr} (h : up.toNat = (v.toNat + 1) % 65536) : up = v + 1 :=
  BitVec.eq_of_toNat_eq (h.trans (BitVec.toNat_add v 1).symm)

/-- Down by one modulo 2^16, as integers. -/
theorem eq_add_neg_one {v down : Addr} (h : down.toNat = (v.toNat + 65535) % 65536) : down = v + (-1) :=
  BitVec.eq_of_toNat_eq (h.trans (BitVec.toNat_add v (-1)).symm)

/-- Settles O36: the access and the move by `storeAMoveHl_eq` and `loadAMoveHl_eq`, with HL's step read as an integer. -/
theorem loadsAndStoresThatMoveHl : Obligations.LoadsAndStoresThatMoveHl := by
  unfold Obligations.LoadsAndStoresThatMoveHl
  intro s up down hup hdown
  obtain rfl := eq_add_one hup
  obtain rfl := eq_add_neg_one hdown
  exact
    ⟨⟨.of_encode rfl rfl, .of_storeAMoveHl rfl⟩,
      ⟨.of_encode rfl rfl, .of_storeAMoveHl rfl⟩,
      ⟨.of_encode rfl rfl, .of_loadAMoveHl rfl⟩,
      ⟨.of_encode rfl rfl, .of_loadAMoveHl rfl⟩⟩

end Sys2Proof.Machine
end

section
/-! The 16-bit loads and the stack (41_loads_16bit_stack.md R150 to R156, 43_alu_16bit.md R203): which shared meaning each
form has and how it is encoded, what two bus writes reach, and what a pop reads after a push. -/

namespace Sys2Proof.Machine

/-! ### The forms over the pair tables -/

theorem exec_loadPair (p : R16) (v : Addr) (s : State) : exec (Form.loadPair p v) s = .next (ldPairImm p v s) := by
  cases p <;> rfl

theorem exec_push (p : R16Stk) (s : State) : exec (Form.push p) s = .next (pushPair p s) := by cases p <;> rfl

theorem exec_pop (p : R16Stk) (s : State) : exec (Form.pop p) s = .next (popPair p s) := by cases p <;> rfl

/-- `00rr0001` and the operand, low byte first (41_loads_16bit_stack.md R150). -/
theorem encodedAs_loadPair (p : R16) (v : Addr) :
    EncodedAs (Form.loadPair p v) [0x01 + 16 * p.code, v.extractLsb' 0 8, v.extractLsb' 8 8] := by
  cases p <;> exact .of_encode rfl rfl

/-- `11rr0101` (41_loads_16bit_stack.md R154). -/
theorem encodedAs_push (p : R16Stk) : EncodedAs (Form.push p) [0xC5 + 16 * p.code] := by
  cases p <;> exact .of_encode rfl rfl

/-- `11rr0001` (41_loads_16bit_stack.md R155, R156). -/
theorem encodedAs_pop (p : R16Stk) : EncodedAs (Form.pop p) [0xC1 + 16 * p.code] := by
  cases p <;> exact .of_encode rfl rfl

/-! ### Two stores -/

/-- Two bus writes leave every address neither reaches reading as before. -/
theorem busRead_busWrite_busWrite {s : State} {a b c : Addr} (v w : Byte) (ha : ¬ StoreReaches s a c)
    (hb : ¬ StoreReaches s b c) : busRead (busWrite (busWrite s a v) b w) c = busRead s c :=
  calc busRead (busWrite (busWrite s a v) b w) c
    _ = busRead (busWrite s a v) c :=
      storesChangeOnlyWhatTheyReach _ b c w (mt (storeReaches_busWrite s a b c v).1 hb)
    _ = busRead s c := storesChangeOnlyWhatTheyReach s a c v ha

/-- A push and any register updates leave every address its two stores do not reach reading as before. -/
theorem PushesWord.of {i : Instr} {s : State} {v : Addr} {c : Cpu}
    (h : exec i s = .next { pushWrites s v with cpu := c }) : PushesWord i s v c :=
  ⟨h, fun _ => busRead_busWrite_busWrite _ _⟩

/-- A push that ends a meaning. -/
theorem took_push16 (v : Addr) (s : State) (n : Nat) :
    (push16 v s).took n = { pushWrites s v with cpu := { s.cpu with sp := s.cpu.sp - 2, cycles := n } } := by
  rw [push16_eq]; rfl

/-! ### 16-bit loads -/

/-- A write to one pair that ends a meaning. -/
theorem took_setR16 (s : State) (p : R16) (v : Addr) (n : Nat) :
    (s.setR16 p v).took n = { s with cpu := { (s.setR16 p v).cpu with cycles := n } } := by
  cases p <;> rfl

theorem ldMemSp_eq (a : Addr) (s : State) :
    ldMemSp a s =
      { busWrite (busWrite s a (lo s.cpu.sp)) (a + 1) (hi s.cpu.sp) with cpu := { s.cpu with cycles := 5 } } := by
  rw [ldMemSp, memWrite16, took_busWrite, busWrite_cpu_eq]

/-- Settles O37: a write to a pair, a write to SP, and two bus writes. -/
theorem sixteenBitLoads : Obligations.SixteenBitLoads := by
  unfold Obligations.SixteenBitLoads
  intro s p v a
  have hstore : exec (.ldMemA16Sp a) s = .next (ldMemSp a s) := rfl
  rw [ldMemSp_eq] at hstore
  refine
    ⟨⟨encodedAs_loadPair p v, .of (by rw [exec_loadPair, ldPairImm, took_setR16])⟩,
      ⟨.of_encode rfl rfl, .of rfl⟩,
      .of_encode rfl rfl, hstore, fun t ht b => ?frame⟩
  case frame =>
    obtain rfl := Host.Outcome.next.inj (hstore.symm.trans ht)
    exact busRead_busWrite_busWrite _ _

/-! ### Signed offsets from SP -/

/-- Writing the flags writes F whole: the packed byte needs no mask (10_state.md R12). -/
theorem State.setFlags_eq (s : State) (fl : Flags) : s.setFlags fl = { s with cpu.f := fl.pack } :=
  congrArg (fun f => { s with cpu.f := f }) fl.pack_mask

theorem addSpOffset_eq (e : Byte) (s : State) :
    addSpOffset e s =
      { s with cpu := { s.cpu with sp := s.cpu.sp + sext16 e, f := (spOffsetFlags s.cpu.sp e).pack, cycles := 4 } } := by
  rw [addSpOffset, State.setFlags_eq]; rfl

theorem ldHlSpOffset_eq (e : Byte) (s : State) :
    ldHlSpOffset e s =
      { s with
        cpu := { (s.setHl (s.cpu.sp + sext16 e)).cpu with f := (spOffsetFlags s.cpu.sp e).pack, cycles := 3 } } := by
  rw [ldHlSpOffset, State.setFlags_eq]; rfl

/-- Settles O38: the sum by `add_sext16_toNat`, the flags by what packing them gives. -/
theorem signedOffsetsFromSp : Obligations.SignedOffsetsFromSp := by
  unfold Obligations.SignedOffsetsFromSp
  intro s e r hr
  obtain rfl : r = s.cpu.sp + sext16 e := BitVec.eq_of_toNat_eq (Int.ofNat.inj (hr.trans (add_sext16_toNat _ _).symm))
  exact
    ⟨_, (spOffsetFlags s.cpu.sp e).flagsAre_pack,
      ⟨.of_encode rfl rfl, .of (congrArg _ (addSpOffset_eq e s))⟩,
      ⟨.of_encode rfl rfl, .of (congrArg _ (ldHlSpOffset_eq e s))⟩⟩

/-! ### PUSH and POP -/

/-- Settles O39: the meaning is one push and its M-cycles. -/
theorem pushStoresHighThenLow : Obligations.PushStoresHighThenLow := by
  unfold Obligations.PushStoresHighThenLow
  exact fun s p => ⟨encodedAs_push p, .of (by rw [exec_push, pushPair, took_push16])⟩

theorem popPair_eq (p : R16Stk) (s : State) :
    popPair p s = { s with cpu := { (s.setR16Stk p (topOfStack s)).cpu with sp := s.cpu.sp + 2, cycles := 3 } } := by
  cases p <;> rfl

/-- Settles O40: the pair is written from the two bytes at SP; AF's halves are those bytes, F's masked. -/
theorem popReadsLowThenHigh : Obligations.PopReadsLowThenHigh := by
  unfold Obligations.PopReadsLowThenHigh
  intro s p
  refine ⟨encodedAs_pop p, .of (by rw [exec_pop, popPair_eq]), ?flags, ?accumulator⟩
  case flags => exact congrArg (· &&& 0xF0) (lo_join _ _)
  case accumulator => exact hi_join _ _

/-! ### A pop after a push -/

/-- A call that ends a meaning (45_control_transfer.md R225). -/
theorem took_callTo (a : Addr) (s : State) (n : Nat) :
    (callTo a s).took n =
      { pushWrites s s.cpu.pc with cpu := { s.cpu with sp := s.cpu.sp - 2, pc := a, cycles := n } } := by
  rw [callTo, push16_eq]; rfl

theorem ret_eq (s : State) :
    ret s = { s with cpu := { s.cpu with sp := s.cpu.sp + 2, pc := topOfStack s, cycles := 4 } } := rfl

/-- Writing a pair that PUSH and POP name reads neither SP nor the M-cycle count, and no field outside the CPU. -/
theorem State.setR16Stk_cpu_of (s t : State) (q : R16Stk) (v sp : Addr) (n m : Nat) :
    { (State.setR16Stk { t with cpu := { s.cpu with sp := sp, cycles := n } } q v).cpu with sp := s.cpu.sp, cycles := m } =
      { (s.setR16Stk q v).cpu with cycles := m } := by
  cases q <;> rfl

/-- A byte written to open storage is read back. -/
theorem busRead_busWrite_open {s : State} {a : Addr} (v : Byte) (h : StorageOpen s.ppu.mode a) :
    busRead (busWrite s a v) a = v := by
  obtain ⟨-, -, hread⟩ := bus_open v h
  exact hread

/-- A write to open storage leaves every other address reading as before. -/
theorem busRead_busWrite_open_other {s : State} {a b : Addr} (v : Byte) (h : StorageOpen s.ppu.mode a) (hne : b ≠ a) :
    busRead (busWrite s a v) b = busRead s b := by
  rw [busWrite_open v h]
  exact busRead_storeByte s _ v b (mt BitVec.eq_of_toNat_eq hne)

section
variable {s : State} (hhi : StorageOpen s.ppu.mode (s.cpu.sp - 1)) (hlo : StorageOpen s.ppu.mode (s.cpu.sp - 2))
include hhi hlo

/-- Over open storage the two bytes pushed are read back: the low byte's store does not touch the high byte. -/
theorem busRead_pushWrites (v : Addr) :
    busRead (pushWrites s v) (s.cpu.sp - 1) = hi v ∧ busRead (pushWrites s v) (s.cpu.sp - 2) = lo v := by
  have hlo' : StorageOpen (busWrite s (s.cpu.sp - 1) (hi v)).ppu.mode (s.cpu.sp - 2) := by
    rwa [(busWrite_keeps s _ _).devices.mode]
  have hne : s.cpu.sp - 1 ≠ s.cpu.sp - 2 := by bv_omega
  exact ⟨(busRead_busWrite_open_other _ hlo' hne).trans (busRead_busWrite_open _ hhi), busRead_busWrite_open _ hlo'⟩

/-- The word on top of the stack after a push is the word pushed (00_scope.md R7). -/
theorem topOfStack_pushWrites (v : Addr) {c : Cpu} (hc : c.sp = s.cpu.sp - 2) :
    topOfStack { pushWrites s v with cpu := c } = v := by
  obtain ⟨hhigh, hlow⟩ := busRead_pushWrites hhi hlo v
  have hsp : c.sp + 1 = s.cpu.sp - 1 := by bv_omega
  calc topOfStack { pushWrites s v with cpu := c }
    _ = join (busRead (pushWrites s v) (c.sp + 1)) (busRead (pushWrites s v) c.sp) := rfl
    _ = join (hi v) (lo v) := by rw [hsp, hc, hhigh, hlow]
    _ = v := join_hi_lo v

theorem popPair_pushPair_cpu (p q : R16Stk) :
    (popPair q (pushPair p s)).cpu = { (s.setR16Stk q (s.getR16Stk p)).cpu with cycles := 3 } := by
  rw [pushPair, took_push16, popPair_eq, topOfStack_pushWrites hhi hlo _ rfl]
  dsimp only
  rw [BitVec.sub_add_cancel]
  exact s.setR16Stk_cpu_of (pushWrites s _) q _ _ _ _

theorem ret_call_cpu (a : Addr) : (ret (call a s)).cpu = { s.cpu with cycles := 4 } := by
  rw [call, took_callTo, ret_eq, topOfStack_pushWrites hhi hlo _ rfl]
  dsimp only
  rw [BitVec.sub_add_cancel]

end

/-- Settles O41: what is read back is what was pushed, by `topOfStack_pushWrites`; WRAM and HRAM are open in every mode. -/
theorem stackReturnsWhatWasPushed : Obligations.StackReturnsWhatWasPushed := by
  unfold Obligations.StackReturnsWhatWasPushed
  intro s p q a hplain
  have hhi : StorageOpen s.ppu.mode (s.cpu.sp - 1) := (hplain _ (.inl rfl)).imp_right .inl
  have hlo : StorageOpen s.ppu.mode (s.cpu.sp - 2) := (hplain _ (.inr rfl)).imp_right .inl
  have hpop := popPair_pushPair_cpu hhi hlo p q
  have hsp : (popPair q (pushPair p s)).cpu.sp = s.cpu.sp := by rw [hpop]; exact s.setR16Stk_sp _ _
  exact
    ⟨⟨pushPair p s, popPair q (pushPair p s), exec_push p s, exec_pop q _, hsp, hpop⟩,
      call a s, ret (call a s), rfl, rfl, rfl, ret_call_cpu hhi hlo a⟩

end Sys2Proof.Machine
end

section
/-! 8-bit arithmetic and logic (42_alu_8bit.md): which shared meaning each form has and how it is encoded, the shared meanings
as register updates or one store, and then the results as integers. -/

namespace Sys2Proof.Machine

/-! ### The forms over the operand table -/

theorem exec_alu (op : AluOp) (x : Source) (s : State) : exec (Form.alu op x) s = .next (alu op x s) := by
  rcases x with (r | _) | v
  case loc.reg => cases op <;> cases r <;> rfl
  case loc.memHl => cases op <;> rfl
  case imm => cases op <;> rfl

theorem exec_inc (l : Loc) (s : State) : exec (Form.inc l) s = .next (incLoc l s) := by
  rcases l with r | _
  case reg => cases r <;> rfl
  case memHl => rfl

theorem exec_dec (l : Loc) (s : State) : exec (Form.dec l) s = .next (decLoc l s) := by
  rcases l with r | _
  case reg => cases r <;> rfl
  case memHl => rfl

/-- `10fffsss`, or `11fff110` and the operand (42_alu_8bit.md R171). -/
theorem encodedAs_alu (op : AluOp) (x : Source) : EncodedAs (Form.alu op x) (aluBytes op x) := by
  rcases x with (r | _) | v
  case loc.reg => cases op <;> cases r <;> exact .of_encode rfl rfl
  case loc.memHl => cases op <;> exact .of_encode rfl rfl
  case imm => cases op <;> exact .of_encode rfl rfl

/-- `00ddd100` (42_alu_8bit.md R180, R181). -/
theorem encodedAs_inc (l : Loc) : EncodedAs (Form.inc l) [0x04 + 8 * l.code] := by
  rcases l with r | _
  case reg => cases r <;> exact .of_encode rfl rfl
  case memHl => exact .of_encode rfl rfl

/-- `00ddd101` (42_alu_8bit.md R182, R183). -/
theorem encodedAs_dec (l : Loc) : EncodedAs (Form.dec l) [0x05 + 8 * l.code] := by
  rcases l with r | _
  case reg => cases r <;> exact .of_encode rfl rfl
  case memHl => exact .of_encode rfl rfl

/-! ### Operations on the accumulator -/

/-- The count of 42_alu_8bit.md R171, as the statements write it. -/
theorem eq_sourceCost {x : Source} {n : Nat}
    (h : n = match x with | .loc (.reg _) => 1 | .loc .memHl => 2 | .imm _ => 2) : n = sourceCost x := by
  rcases x with (_ | _) | _ <;> exact h

/-- An accumulator operation writes A, F and the M-cycle count, and reads A, its operand and the C flag. -/
theorem alu_eq {op : AluOp} {x : Source} {s : State} {r : Byte} {fl : Flags}
    (h : aluApply op s.cpu.a (getSource s x) (carryFlag s) = (r, fl)) :
    alu op x s = { s with cpu := { s.cpu with a := r, f := fl.pack, cycles := sourceCost x } } := by
  rw [alu, State.flags_c, h, State.setFlags_eq]; rfl

theorem RegistersOnly.of_alu {op : AluOp} {x : Source} {s : State} {r : Byte} {fl : Flags}
    (h : aluApply op s.cpu.a (getSource s x) (carryFlag s) = (r, fl)) :
    RegistersOnly (Form.alu op x) s { s.cpu with a := r, f := fl.pack, cycles := sourceCost x } :=
  .of ((exec_alu op x s).trans (congrArg _ (alu_eq h)))

theorem addWithCarry_toNat (a x : Byte) (carry : Bool) :
    (addWithCarry a x carry).1.toNat = (a.toNat + x.toNat + carry.toNat) % 256 :=
  BitVec.toNat_ofNat _ 8

/-- Settles O42: the sum by `addWithCarry_toNat`, the flags by what packing them gives. -/
theorem additionsToTheAccumulator : Obligations.AdditionsToTheAccumulator := by
  unfold Obligations.AdditionsToTheAccumulator
  rintro s x _ _ _ n rfl rfl rfl hn
  obtain rfl := eq_sourceCost hn
  exact
    ⟨⟨encodedAs_alu .add x, _, _, addWithCarry_toNat _ _ false, Flags.flagsAre_pack _, .of_alu rfl⟩,
      ⟨encodedAs_alu .adc x, _, _, addWithCarry_toNat _ _ _, Flags.flagsAre_pack _, .of_alu rfl⟩⟩

/-- The difference modulo 2^8: 512 is a multiple of 256 that no operand and borrow exceed. -/
theorem subWithBorrow_toNat (a x : Byte) (borrow : Bool) :
    (subWithBorrow a x borrow).1.toNat = (a.toNat + 512 - x.toNat - borrow.toNat) % 256 := by
  have hx := x.isLt
  have hborrow := borrow.toNat_le
  simp only [subWithBorrow, BitVec.toNat_sub, BitVec.toNat_ofNat]
  omega

/-- Without a borrow in, one 256 is enough (42_alu_8bit.md R174). -/
theorem subWithBorrow_false_toNat (a x : Byte) :
    (subWithBorrow a x false).1.toNat = (a.toNat + 256 - x.toNat) % 256 := by
  have hx := x.isLt
  rw [subWithBorrow_toNat, Bool.toNat_false]
  omega

/-- Without a borrow in, the difference is 0 just where the operands are equal (42_alu_8bit.md R179). -/
theorem subWithBorrow_false_z (a x : Byte) : (subWithBorrow a x false).2.z = decide (a.toNat = x.toNat) := by
  have hr : a - x - 0#8 = 0#8 ↔ a.toNat = x.toNat := by
    rw [BitVec.sub_zero, BitVec.sub_eq_iff_eq_add, BitVec.zero_add, BitVec.toNat_inj]
  exact decide_eq_decide.2 hr

/-- The flags of a comparison: Z is the equality of the operands. -/
theorem flagsAre_cp (a x : Byte) :
    FlagsAre (subWithBorrow a x false).2.pack (decide (a.toNat = x.toNat)) true
      (decide (a.toNat % 16 < x.toNat % 16)) (decide (a.toNat < x.toNat)) :=
  subWithBorrow_false_z a x ▸ Flags.flagsAre_pack _

/-- Settles O43: the difference by `subWithBorrow_toNat`; CP writes back the A it read, and its Z is an equality. -/
theorem subtractionsFromTheAccumulator : Obligations.SubtractionsFromTheAccumulator := by
  unfold Obligations.SubtractionsFromTheAccumulator
  rintro s x _ _ _ n rfl rfl rfl hn
  obtain rfl := eq_sourceCost hn
  exact
    ⟨⟨encodedAs_alu .sub x, _, _, subWithBorrow_false_toNat _ _, Flags.flagsAre_pack _, .of_alu rfl⟩,
      ⟨encodedAs_alu .sbc x, _, _, subWithBorrow_toNat _ _ _, Flags.flagsAre_pack _, .of_alu rfl⟩,
      ⟨encodedAs_alu .cp x, _, flagsAre_cp _ _, .of_alu rfl⟩⟩

/-- Settles O44: A and the flags are those `aluApply` gives. -/
theorem logicOnTheAccumulator : Obligations.LogicOnTheAccumulator := by
  unfold Obligations.LogicOnTheAccumulator
  rintro s x _ n rfl hn
  obtain rfl := eq_sourceCost hn
  exact
    ⟨⟨encodedAs_alu .and x, _, Flags.flagsAre_pack _, .of_alu rfl⟩,
      ⟨encodedAs_alu .xor x, _, Flags.flagsAre_pack _, .of_alu rfl⟩,
      ⟨encodedAs_alu .or x, _, Flags.flagsAre_pack _, .of_alu rfl⟩⟩

/-! ### Increments and decrements -/

/-- A write to one register and to the flags that ends a meaning. -/
theorem took_setFlags_setR8 (s : State) (d : R8) (v : Byte) (fl : Flags) (n : Nat) :
    ((s.setR8 d v).setFlags fl).took n =
      { s with cpu := { (s.setR8 d v).cpu with f := fl.pack, cycles := n } } := by
  rw [State.setFlags_eq]; cases d <;> rfl

/-- A store and a write to the flags that end a meaning. -/
theorem took_setFlags_busWrite (s : State) (addr : Addr) (v : Byte) (fl : Flags) (n : Nat) :
    ((busWrite s addr v).setFlags fl).took n =
      { busWrite s addr v with cpu := { s.cpu with f := fl.pack, cycles := n } } := by
  rw [State.setFlags_eq, busWrite_cpu_eq]; rfl

theorem RegistersOnly.of_setR8_setFlags {i : Instr} {s : State} {d : R8} {v : Byte} {fl : Flags} {n : Nat}
    (h : exec i s = .next (((s.setR8 d v).setFlags fl).took n)) :
    RegistersOnly i s { (s.setR8 d v).cpu with f := fl.pack, cycles := n } :=
  .of (h.trans (congrArg _ (took_setFlags_setR8 s d v fl n)))

theorem StoresByte.of_busWrite_setFlags {i : Instr} {s : State} {addr : Addr} {v : Byte} {fl : Flags} {n : Nat}
    (h : exec i s = .next (((busWrite s addr v).setFlags fl).took n)) :
    StoresByte i s addr v { s.cpu with f := fl.pack, cycles := n } :=
  .of (h.trans (congrArg _ (took_setFlags_busWrite s addr v fl n)))

theorem inc8_toNat (v : Byte) (old : Flags) : (inc8 v old).1.toNat = (v.toNat + 1) % 256 := BitVec.toNat_add v 1

theorem dec8_toNat (v : Byte) (old : Flags) : (dec8 v old).1.toNat = (v.toNat + 255) % 256 :=
  (BitVec.toNat_sub v 1).trans (congrArg (· % 256) (Nat.add_comm 255 v.toNat))

/-- Settles O45: each form is a write to its register and to the flags. -/
theorem registerIncrementsAndDecrements : Obligations.RegisterIncrementsAndDecrements := by
  unfold Obligations.RegisterIncrementsAndDecrements
  rintro s d _ rfl
  exact
    ⟨⟨encodedAs_inc (.reg d), _, _, inc8_toNat _ s.flags, Flags.flagsAre_pack _, .of_setR8_setFlags (exec_inc (.reg d) s)⟩,
      ⟨encodedAs_dec (.reg d), _, _, dec8_toNat _ s.flags, Flags.flagsAre_pack _, .of_setR8_setFlags (exec_dec (.reg d) s)⟩⟩

/-- Settles O46: each form is one bus write at HL, of the byte read there, and a write to the flags. -/
theorem memoryIncrementsAndDecrements : Obligations.MemoryIncrementsAndDecrements := by
  unfold Obligations.MemoryIncrementsAndDecrements
  rintro s _ rfl
  exact
    ⟨⟨encodedAs_inc .memHl, _, _, inc8_toNat _ s.flags, Flags.flagsAre_pack _, .of_busWrite_setFlags (exec_inc .memHl s)⟩,
      ⟨encodedAs_dec .memHl, _, _, dec8_toNat _ s.flags, Flags.flagsAre_pack _, .of_busWrite_setFlags (exec_dec .memHl s)⟩⟩

end Sys2Proof.Machine
end

section
/-! 16-bit arithmetic (43_alu_16bit.md R200 to R202): which shared meaning each form has and how it is encoded, the shared
meanings as register updates, and then the results as integers. -/

namespace Sys2Proof.Machine

/-! ### The forms over the pair table -/

theorem exec_addHl (p : R16) (s : State) : exec (Form.addHl p) s = .next (addHlPair p s) := by cases p <;> rfl

theorem exec_incPair (p : R16) (s : State) : exec (Form.incPair p) s = .next (incPair p s) := by cases p <;> rfl

theorem exec_decPair (p : R16) (s : State) : exec (Form.decPair p) s = .next (decPair p s) := by cases p <;> rfl

/-- `00rr1001` (43_alu_16bit.md R200). -/
theorem encodedAs_addHl (p : R16) : EncodedAs (Form.addHl p) [0x09 + 16 * p.code] := by
  cases p <;> exact .of_encode rfl rfl

/-- `00rr0011` (43_alu_16bit.md R201). -/
theorem encodedAs_incPair (p : R16) : EncodedAs (Form.incPair p) [0x03 + 16 * p.code] := by
  cases p <;> exact .of_encode rfl rfl

/-- `00rr1011` (43_alu_16bit.md R202). -/
theorem encodedAs_decPair (p : R16) : EncodedAs (Form.decPair p) [0x0B + 16 * p.code] := by
  cases p <;> exact .of_encode rfl rfl

/-! ### Addition to HL -/

/-- ADD HL,rr writes HL, F and the M-cycle count; the operand is read before HL is written, so HL may be that operand. -/
theorem addHlPair_eq (p : R16) (s : State) :
    addHlPair p s =
      { s with
        cpu := { (s.setHl (s.hl + s.getR16 p)).cpu with
          f := (addHlFlags s.hl (s.getR16 p) s.flags).pack, cycles := 2 } } := by
  rw [addHlPair, State.setFlags_eq]; rfl

/-- Settles O47: the sum is that of 16-bit words, the flags what packing `addHlFlags` gives, its Z the one F held. -/
theorem additionsToHl : Obligations.AdditionsToHl := by
  unfold Obligations.AdditionsToHl
  rintro s p _ rfl
  have hflags := (addHlFlags s.hl (s.getR16 p) s.flags).flagsAre_pack
  exact
    ⟨encodedAs_addHl p, s.hl + s.getR16 p, _, BitVec.toNat_add _ _, hflags,
      .of ((exec_addHl p s).trans (congrArg _ (addHlPair_eq p s)))⟩

/-! ### Increments and decrements of a pair -/

/-- A meaning that is a write to one pair and its M-cycles. -/
theorem RegistersOnly.of_setR16 {i : Instr} {s : State} {p : R16} {v : Addr} {n : Nat}
    (h : exec i s = .next ((s.setR16 p v).took n)) : RegistersOnly i s { (s.setR16 p v).cpu with cycles := n } :=
  .of (h.trans (congrArg _ (took_setR16 s p v n)))

/-- Down by one modulo 2^16, as the subtraction that DEC rr makes. -/
theorem eq_sub_one {v down : Addr} (h : down.toNat = (v.toNat + 65535) % 65536) : down = v - 1 :=
  (eq_add_neg_one h).trans (BitVec.sub_eq_add_neg v 1).symm

/-- Settles O48: each form is a write to its pair, of the value that pair held moved by one. -/
theorem pairIncrementsAndDecrements : Obligations.PairIncrementsAndDecrements := by
  unfold Obligations.PairIncrementsAndDecrements
  intro s p up down hup hdown
  obtain rfl := eq_add_one hup
  obtain rfl := eq_sub_one hdown
  exact
    ⟨⟨encodedAs_incPair p, .of_setR16 (exec_incPair p s)⟩,
      ⟨encodedAs_decPair p, .of_setR16 (exec_decPair p s)⟩⟩

end Sys2Proof.Machine
end

section
/-! Accumulator and flag operations (44_accumulator_flags.md): rotates and shifts as integers, the corrections of DAA, and what
they make of the binary sum or difference of two packed decimal bytes. -/

namespace Sys2Proof.Machine

/-! ### Rotates and shifts as integers -/

theorem bit_zero_eq (v : Byte) : bit v 0 = decide (v.toNat % 2 = 1) := Nat.testBit_zero v.toNat

theorem bit_seven_eq (v : Byte) : bit v 7 = decide (128 ≤ v.toNat) := BitVec.msb_eq_decide v

theorem bit_zero_toNat (v : Byte) : (bit v 0).toNat = v.toNat % 2 := by
  rw [bit_zero_eq, Bool.toNat, Bool.cond_decide]; split <;> omega

theorem bit_seven_toNat (v : Byte) : (bit v 7).toNat = v.toNat / 128 := by
  have hv := v.isLt
  rw [bit_seven_eq, Bool.toNat, Bool.cond_decide]; split <;> omega

/-- A shift left with `c` entering at bit 0. -/
theorem shiftLeft_or_toNat (v : Byte) (c : Bool) :
    ((v <<< 1) ||| (if c then 0x01 else 0)).toNat = (2 * v.toNat + c.toNat) % 256 := by
  have hc : (if c then 0x01 else 0 : Byte).toNat = c.toNat := by cases c <;> rfl
  have hlow : c.toNat < 2 ^ 1 := c.toNat_lt
  have hshift : (v <<< 1).toNat = 2 ^ 1 * (v.toNat % 128) := by
    rw [BitVec.toNat_shiftLeft, Nat.shiftLeft_eq]; omega
  rw [BitVec.toNat_or, hc, hshift, ← Nat.two_pow_add_eq_or_of_lt hlow]
  omega

/-- A shift right with `c` entering at bit 7. -/
theorem shiftRight_or_toNat (v : Byte) (c : Bool) :
    ((v >>> 1) ||| (if c then 0x80 else 0)).toNat = v.toNat / 2 + 128 * c.toNat := by
  have hc : (if c then 0x80 else 0 : Byte).toNat = 2 ^ 7 * c.toNat := by cases c <;> rfl
  have hv := v.isLt
  have hshift : (v >>> 1).toNat = v.toNat / 2 := by rw [BitVec.toNat_ushiftRight, Nat.shiftRight_eq_div_pow]
  rw [BitVec.toNat_or, hc, hshift, Nat.or_comm, ← Nat.two_pow_add_eq_or_of_lt (by omega), Nat.add_comm]

/-- The two halves of a byte exchanged. -/
theorem swapHalves_toNat (v : Byte) : ((v <<< 4) ||| (v >>> 4)).toNat = 16 * (v.toNat % 16) + v.toNat / 16 := by
  have hv := v.isLt
  have hhigh : (v <<< 4).toNat = 2 ^ 4 * (v.toNat % 16) := by
    rw [BitVec.toNat_shiftLeft, Nat.shiftLeft_eq]; omega
  have hlow : (v >>> 4).toNat = v.toNat / 16 := by rw [BitVec.toNat_ushiftRight, Nat.shiftRight_eq_div_pow]
  rw [BitVec.toNat_or, hhigh, hlow, ← Nat.two_pow_add_eq_or_of_lt (by omega)]

theorem and_signBit (v : Byte) : v &&& 0x80 = if bit v 7 then 0x80 else 0 := BitVec.and_twoPow v 7

/-- The result of each rotate, shift and SWAP on integers (46_cb_prefixed.md R241 to R248). -/
theorem shiftApply_toNat (op : ShiftOp) (v : Byte) (carry : Bool) :
    (shiftApply op v carry).1.toNat = (shiftedValue v.toNat carry op).1 := by
  cases op with
  | rlc => exact (shiftLeft_or_toNat v _).trans (by rw [bit_seven_toNat]; rfl)
  | rrc => exact (shiftRight_or_toNat v _).trans (by rw [bit_zero_toNat]; rfl)
  | rl => exact shiftLeft_or_toNat v carry
  | rr => exact shiftRight_or_toNat v carry
  | sla => exact (congrArg BitVec.toNat BitVec.or_zero).symm.trans (shiftLeft_or_toNat v false)
  | sra =>
    have h := shiftRight_or_toNat v (bit v 7)
    rwa [← and_signBit, bit_seven_toNat] at h
  | swap => exact swapHalves_toNat v
  | srl => exact (congrArg BitVec.toNat BitVec.or_zero).symm.trans (shiftRight_or_toNat v false)

/-- The bit each rotate and shift moves out (46_cb_prefixed.md R241 to R248). -/
theorem shiftApply_carry (op : ShiftOp) (v : Byte) (carry : Bool) :
    (shiftApply op v carry).2 = (shiftedValue v.toNat carry op).2 := by
  cases op with
  | rlc | rl | sla => exact bit_seven_eq v
  | rrc | rr | sra | srl => exact bit_zero_eq v
  | swap => rfl

/-! ### The meanings as register updates -/

/-- A meaning that is a write to A, a write to the flags and one M-cycle. -/
theorem RegistersOnly.of_setA_setFlags {i : Instr} {s : State} {v : Byte} {fl : Flags}
    (h : exec i s = .next (((s.setA v).setFlags fl).took 1)) :
    RegistersOnly i s { s.cpu with a := v, f := fl.pack, cycles := 1 } :=
  .of_setR8_setFlags (d := .A) h

/-- A meaning that is a write to the flags and one M-cycle. -/
theorem RegistersOnly.of_setFlags {i : Instr} {s : State} {fl : Flags}
    (h : exec i s = .next ((s.setFlags fl).took 1)) : RegistersOnly i s { s.cpu with f := fl.pack, cycles := 1 } :=
  .of (h.trans (by rw [State.setFlags_eq]; rfl))

theorem not_toNat (v : Byte) : (~~~ v).toNat = 255 - v.toNat := BitVec.toNat_not

/-- A left rotate moves out the highest bit, a right rotate the lowest. -/
theorem flagsAre_accRotate (op : ShiftOp) {v : Byte} {carry out : Bool} (h : (shiftedValue v.toNat carry op).2 = out) :
    FlagsAre (accRotateFlags (shiftApply op v carry).2).pack false false false out :=
  h ▸ shiftApply_carry op v carry ▸ Flags.flagsAre_pack _

/-- Settles O49: the rotates are those of `shiftApply_toNat` with Z cleared; CPL is `not_toNat`; SCF and CCF write flags only. -/
theorem accumulatorRotatesAndFlagOperations : Obligations.AccumulatorRotatesAndFlagOperations := by
  unfold Obligations.AccumulatorRotatesAndFlagOperations
  rintro s _ _ rfl rfl
  have ha := s.cpu.a.isLt
  have hleft : decide (128 ≤ s.cpu.a.toNat) = decide (s.cpu.a.toNat / 128 = 1) := decide_eq_decide.2 (by omega)
  exact
    ⟨⟨.of_encode rfl rfl, _, _, shiftApply_toNat .rlc _ _, flagsAre_accRotate .rlc hleft, .of_setA_setFlags rfl⟩,
      ⟨.of_encode rfl rfl, _, _, shiftApply_toNat .rrc _ _, flagsAre_accRotate .rrc rfl, .of_setA_setFlags rfl⟩,
      ⟨.of_encode rfl rfl, _, _, shiftApply_toNat .rl _ _, flagsAre_accRotate .rl hleft, .of_setA_setFlags rfl⟩,
      ⟨.of_encode rfl rfl, _, _, shiftApply_toNat .rr _ _, flagsAre_accRotate .rr rfl, .of_setA_setFlags rfl⟩,
      ⟨.of_encode rfl rfl, _, _, not_toNat _, Flags.flagsAre_pack _, .of_setA_setFlags rfl⟩,
      ⟨.of_encode rfl rfl, _, Flags.flagsAre_pack _, .of_setFlags rfl⟩,
      ⟨.of_encode rfl rfl, _, Flags.flagsAre_pack _, .of_setFlags rfl⟩⟩

/-! ### DAA -/

/-- `low` of 44_accumulator_flags.md R214: the low digit is corrected. -/
def correctsLow (a : Nat) (old : Flags) : Bool := old.h || (!old.n && decide (0x09 < a % 16))

/-- `high` of 44_accumulator_flags.md R214: the high digit is corrected. -/
def correctsHigh (a : Nat) (old : Flags) : Bool := old.c || (!old.n && decide (0x99 < a))

/-- The correction of 44_accumulator_flags.md R214. -/
def correction (low high : Bool) : Byte := (if low then 0x06 else 0) + (if high then 0x60 else 0)

theorem correction_toNat (low high : Bool) :
    (correction low high).toNat = (if low then 0x06 else 0) + (if high then 0x60 else 0) := by
  cases low <;> cases high <;> rfl

/-- DAA subtracts its correction after a subtraction and adds it otherwise. -/
theorem daa_result (a : Byte) (old : Flags) :
    (daa a old).1 =
      if old.n then a - correction (correctsLow a.toNat old) (correctsHigh a.toNat old)
      else a + correction (correctsLow a.toNat old) (correctsHigh a.toNat old) := by
  obtain ⟨z, n, h, c⟩ := old
  cases n with
  | true => simp only [daa, correction, correctsLow, correctsHigh, if_true, Bool.not_true, Bool.false_and, Bool.or_false]
  | false => rfl

/-- DAA keeps N, clears H, and sets C where it corrects the high digit. -/
theorem daa_flags (a : Byte) (old : Flags) :
    (daa a old).2 = { z := (daa a old).1 == 0, n := old.n, h := false, c := correctsHigh a.toNat old } := by
  obtain ⟨z, n, h, c⟩ := old
  cases n with
  | true => cases c <;> rfl
  | false => cases c <;> rfl

/-- The result of DAA on integers. -/
theorem daa_toNat {a : Byte} {old : Flags} {adj : Nat}
    (h : adj = (if correctsLow a.toNat old then 0x06 else 0) + (if correctsHigh a.toNat old then 0x60 else 0)) :
    (daa a old).1.toNat = (if old.n then a.toNat + 256 - adj else a.toNat + adj) % 256 := by
  rw [← correction_toNat] at h
  subst h
  rw [daa_result]
  split
  · rw [BitVec.toNat_sub]
    bv_omega
  · exact BitVec.toNat_add _ _

/-- Settles O50: the correction is that of `daa_toNat`, the flags those of `daa_flags`. -/
theorem decimalAdjustCorrectsTheAccumulator : Obligations.DecimalAdjustCorrectsTheAccumulator := by
  unfold Obligations.DecimalAdjustCorrectsTheAccumulator
  rintro s _ _ _ _ rfl rfl rfl rfl
  exact
    ⟨.of_encode rfl rfl, _, _, daa_toNat rfl, daa_flags s.cpu.a s.flags ▸ Flags.flagsAre_pack _,
      .of_setA_setFlags rfl⟩

/-! ### Decimal arithmetic -/

theorem packedDecimal_toNat {n : Nat} (h : n < 100) : (packedDecimal n).toNat = 16 * (n / 10) + n % 10 := by
  rw [packedDecimal, BitVec.toNat_ofNat, Nat.mod_eq_of_lt (by omega)]

section
variable {m n : Nat} (hm : m < 100) (hn : n < 100) (c : Bool)
include hm hn

/-- After a sum the low digit is corrected just where the low digits' decimal sum passes 9. -/
theorem correctsLow_addWithCarry :
    correctsLow (addWithCarry (packedDecimal m) (packedDecimal n) c).1.toNat
        (addWithCarry (packedDecimal m) (packedDecimal n) c).2 = decide (9 < m % 10 + n % 10 + c.toNat) := by
  have hc := c.toNat_le
  rw [correctsLow, addWithCarry_toNat]
  simp only [addWithCarry, packedDecimal_toNat hm, packedDecimal_toNat hn, Bool.not_false, Bool.true_and, ← Bool.decide_or]
  exact decide_eq_decide.2 (by omega)

/-- After a sum the high digit is corrected just where the decimal sum passes 99. -/
theorem correctsHigh_addWithCarry :
    correctsHigh (addWithCarry (packedDecimal m) (packedDecimal n) c).1.toNat
        (addWithCarry (packedDecimal m) (packedDecimal n) c).2 = decide (100 ≤ m + n + c.toNat) := by
  have hc := c.toNat_le
  have htens : m + n + c.toNat < 100 → m / 10 + n / 10 < 10 := by omega
  have hsum : m + n + c.toNat < 100 → 16 * (m / 10) + m % 10 + (16 * (n / 10) + n % 10) + c.toNat ≤ 0x99 := by omega
  rw [correctsHigh, addWithCarry_toNat]
  simp only [addWithCarry, packedDecimal_toNat hm, packedDecimal_toNat hn, Bool.not_false, Bool.true_and, ← Bool.decide_or]
  exact decide_eq_decide.2 (by omega)

/-- After a difference the low digit is corrected just where the low digits borrow. -/
theorem correctsLow_subWithBorrow :
    correctsLow (subWithBorrow (packedDecimal m) (packedDecimal n) c).1.toNat
        (subWithBorrow (packedDecimal m) (packedDecimal n) c).2 = decide (m % 10 < n % 10 + c.toNat) := by
  have hc := c.toNat_le
  simp only [correctsLow, subWithBorrow, packedDecimal_toNat hm, packedDecimal_toNat hn, Bool.not_true, Bool.false_and,
    Bool.or_false]
  exact decide_eq_decide.2 (by omega)

/-- After a difference the high digit is corrected just where the decimal difference borrows. -/
theorem correctsHigh_subWithBorrow :
    correctsHigh (subWithBorrow (packedDecimal m) (packedDecimal n) c).1.toNat
        (subWithBorrow (packedDecimal m) (packedDecimal n) c).2 = decide (m < n + c.toNat) := by
  have hc := c.toNat_le
  simp only [correctsHigh, subWithBorrow, packedDecimal_toNat hm, packedDecimal_toNat hn, Bool.not_true, Bool.false_and,
    Bool.or_false]
  exact decide_eq_decide.2 (by omega)

/-- DAA after a binary sum of packed decimal bytes leaves the packed decimal sum. -/
theorem daa_addWithCarry :
    (daa (addWithCarry (packedDecimal m) (packedDecimal n) c).1 (addWithCarry (packedDecimal m) (packedDecimal n) c).2).1 =
      packedDecimal ((m + n + c.toNat) % 100) := by
  have hc := c.toNat_le
  apply BitVec.eq_of_toNat_eq
  rw [daa_toNat rfl, correctsLow_addWithCarry hm hn, correctsHigh_addWithCarry hm hn, addWithCarry_toNat,
    packedDecimal_toNat hm, packedDecimal_toNat hn, packedDecimal_toNat (by omega)]
  simp only [addWithCarry, decide_eq_true_eq, Bool.false_eq_true, if_false]
  split <;> split <;> omega

/-- DAA after a binary difference of packed decimal bytes leaves the packed decimal difference. -/
theorem daa_subWithBorrow :
    (daa (subWithBorrow (packedDecimal m) (packedDecimal n) c).1 (subWithBorrow (packedDecimal m) (packedDecimal n) c).2).1 =
      packedDecimal ((m + 200 - n - c.toNat) % 100) := by
  have hc := c.toNat_le
  apply BitVec.eq_of_toNat_eq
  rw [daa_toNat rfl, correctsLow_subWithBorrow hm hn, correctsHigh_subWithBorrow hm hn, subWithBorrow_toNat,
    packedDecimal_toNat hm, packedDecimal_toNat hn, packedDecimal_toNat (by omega)]
  simp only [subWithBorrow, decide_eq_true_eq, if_true]
  split <;> split <;> omega

end

theorem decimalAdjust_a (s : State) : (decimalAdjust s).cpu.a = (daa s.cpu.a s.flags).1 := rfl

theorem decimalAdjust_carry (s : State) : carryFlag (decimalAdjust s) = correctsHigh s.cpu.a.toNat s.flags := by
  have hflags : (decimalAdjust s).flags = (daa s.cpu.a s.flags).2 := State.flags_setFlags (s.setA (daa s.cpu.a s.flags).1) _
  rw [← State.flags_c, hflags, daa_flags]

/-- An accumulator operation on an immediate byte, then DAA: A and C are what DAA makes of the operation's result and flags. -/
theorem exec_alu_daa {op : AluOp} {a v r : Byte} {s : State} {p : Byte × Flags} {high : Bool} (ha : s.cpu.a = a)
    (hp : aluApply op a v (carryFlag s) = p) (hr : (daa p.1 p.2).1 = r) (hhigh : correctsHigh p.1.toNat p.2 = high) :
    ∃ t u, exec (Form.alu op (.imm v)) s = .next t ∧ exec .daa t = .next u ∧ u.cpu.a = r ∧ carryFlag u = high := by
  have halu := alu_eq (x := .imm v) (ha ▸ hp)
  have hresult : (alu op (.imm v) s).cpu.a = p.1 := by rw [halu]
  have hflags : (alu op (.imm v) s).flags = p.2 := by rw [halu]; exact p.2.unpack_pack
  refine ⟨alu op (.imm v) s, decimalAdjust (alu op (.imm v) s), exec_alu op (.imm v) s, rfl, ?_, ?_⟩
  · rw [decimalAdjust_a, hresult, hflags, hr]
  · rw [decimalAdjust_carry, hresult, hflags, hhigh]

/-- Settles O51: ADD and ADC are `addWithCarry`, SUB and SBC `subWithBorrow`, whose results DAA makes decimal. -/
theorem decimalArithmeticIsExact : Obligations.DecimalArithmeticIsExact := by
  unfold Obligations.DecimalArithmeticIsExact
  rintro s m n _ hm hn ha rfl
  have hsub : (m + 200 - n - false.toNat) % 100 = (m + 100 - n) % 100 := by rw [Bool.toNat_false]; omega
  exact
    ⟨exec_alu_daa (op := .add) ha rfl (daa_addWithCarry hm hn false) (correctsHigh_addWithCarry hm hn false),
      exec_alu_daa (op := .adc) ha rfl (daa_addWithCarry hm hn _) (correctsHigh_addWithCarry hm hn _),
      exec_alu_daa (op := .sub) ha rfl (hsub ▸ daa_subWithBorrow hm hn false) (correctsHigh_subWithBorrow hm hn false),
      exec_alu_daa (op := .sbc) ha rfl (daa_subWithBorrow hm hn _) (correctsHigh_subWithBorrow hm hn _)⟩

end Sys2Proof.Machine
end

section
/-! Control transfer (45_control_transfer.md R220 to R230): which shared meaning each form has and how it is encoded, and then
the shared meanings as register updates and pushes. -/

namespace Sys2Proof.Machine

/-! ### The forms over the condition and target tables -/

theorem exec_jumpIf (cc : Cond) (a : Addr) (s : State) : exec (Form.jumpIf cc a) s = .next (jumpIf cc a s) := by
  cases cc <;> rfl

theorem exec_jumpRelIf (cc : Cond) (e : Byte) (s : State) : exec (Form.jumpRelIf cc e) s = .next (jumpRelIf cc e s) := by
  cases cc <;> rfl

theorem exec_callIf (cc : Cond) (a : Addr) (s : State) : exec (Form.callIf cc a) s = .next (callIf cc a s) := by
  cases cc <;> rfl

theorem exec_retIf (cc : Cond) (s : State) : exec (Form.retIf cc) s = .next (retIf cc s) := by cases cc <;> rfl

theorem exec_restart (t : BitVec 3) (s : State) : exec (Form.restart t) s = .next (restart t s) := by
  cases t using field_cases <;> rfl

/-- `110cc010` and the target, low byte first (45_control_transfer.md R221). -/
theorem encodedAs_jumpIf (cc : Cond) (a : Addr) :
    EncodedAs (Form.jumpIf cc a) [0xC2 + 8 * cc.code, a.extractLsb' 0 8, a.extractLsb' 8 8] := by
  cases cc <;> exact .of_encode rfl rfl

/-- `001cc000` and the offset (45_control_transfer.md R224). -/
theorem encodedAs_jumpRelIf (cc : Cond) (e : Byte) : EncodedAs (Form.jumpRelIf cc e) [0x20 + 8 * cc.code, e] := by
  cases cc <;> exact .of_encode rfl rfl

/-- `110cc100` and the target, low byte first (45_control_transfer.md R226). -/
theorem encodedAs_callIf (cc : Cond) (a : Addr) :
    EncodedAs (Form.callIf cc a) [0xC4 + 8 * cc.code, a.extractLsb' 0 8, a.extractLsb' 8 8] := by
  cases cc <;> exact .of_encode rfl rfl

/-- `110cc000` (45_control_transfer.md R228). -/
theorem encodedAs_retIf (cc : Cond) : EncodedAs (Form.retIf cc) [0xC0 + 8 * cc.code] := by
  cases cc <;> exact .of_encode rfl rfl

/-- `11ttt111` (45_control_transfer.md R230). -/
theorem encodedAs_restart (t : BitVec 3) : EncodedAs (Form.restart t) [0xC7 + 8 * t.setWidth 8] := by
  cases t using field_cases <;> exact .of_encode rfl rfl

/-! ### Calls -/

/-- A meaning that is a call and its M-cycles. -/
theorem PushesWord.of_callTo {i : Instr} {s : State} {a : Addr} {n : Nat} (h : exec i s = .next ((callTo a s).took n)) :
    PushesWord i s s.cpu.pc { s.cpu with sp := s.cpu.sp - 2, pc := a, cycles := n } :=
  .of (h.trans (congrArg _ (took_callTo a s n)))

theorem callIf_of_condition {s : State} {cc : Cond} (a : Addr) (h : condition s cc = true) :
    callIf cc a s = (callTo a s).took 6 := by
  rw [callIf, State.holds_eq, if_pos h]

theorem callIf_of_not_condition {s : State} {cc : Cond} (a : Addr) (h : condition s cc = false) :
    callIf cc a s = s.took 3 := by
  rw [callIf, State.holds_eq, h, if_neg Bool.false_ne_true]

/-- The target of RST, as a number (45_control_transfer.md R230). -/
theorem restartTarget_eq (t : BitVec 3) : 8 * t.setWidth 16 = BitVec.ofNat 16 (8 * t.toNat) := by
  apply BitVec.eq_of_toNat_eq; simp

/-- Settles O53: each is `callTo` at its target, CALL cc where its condition holds. -/
theorem callsPushTheReturnAddress : Obligations.CallsPushTheReturnAddress := by
  unfold Obligations.CallsPushTheReturnAddress
  intro s cc a t
  have htaken (h : condition s cc = true) : exec (Form.callIf cc a) s = .next ((callTo a s).took 6) := by
    rw [exec_callIf, callIf_of_condition a h]
  have hnot (h : condition s cc = false) : exec (Form.callIf cc a) s = .next (s.took 3) := by
    rw [exec_callIf, callIf_of_not_condition a h]
  rw [← restartTarget_eq]
  exact
    ⟨⟨.of_encode rfl rfl, .of_callTo rfl⟩,
      ⟨encodedAs_callIf cc a, fun h => .of_callTo (htaken h), fun h => .of (hnot h)⟩,
      encodedAs_restart t, .of_callTo (exec_restart t s)⟩

/-! ### Jumps and returns -/

/-- A meaning that updates registers in one way where its condition holds and in another where it does not. -/
theorem RegistersOnly.of_holds {i : Instr} {s : State} {cc : Cond} {taken untaken : Cpu}
    (h : exec i s = .next (if s.holds cc then { s with cpu := taken } else { s with cpu := untaken })) :
    RegistersOnly i s (if condition s cc then taken else untaken) :=
  .of (h.trans (by rw [State.holds_eq]; split <;> rfl))

/-- The sum with a signed offset modulo 2^16, as integers (45_control_transfer.md R223). -/
theorem eq_add_sext16 {v r : Addr} {e : Byte} (h : (r.toNat : Int) = ((v.toNat : Int) + e.toInt) % 65536) :
    r = v + sext16 e :=
  BitVec.eq_of_toNat_eq (Int.ofNat.inj (h.trans (add_sext16_toNat v e).symm))

/-- Settles O52: each is a write to PC, its target or its condition read as the model reads them. -/
theorem jumpsSetPc : Obligations.JumpsSetPc := by
  unfold Obligations.JumpsSetPc
  intro s cc a e r hr
  obtain rfl : r = relativeTarget e s := eq_add_sext16 hr
  exact
    ⟨⟨.of_encode rfl rfl, .of rfl⟩,
      ⟨encodedAs_jumpIf cc a, .of_holds (exec_jumpIf cc a s)⟩,
      ⟨.of_encode rfl rfl, .of rfl⟩,
      ⟨.of_encode rfl rfl, .of rfl⟩,
      encodedAs_jumpRelIf cc e, .of_holds (exec_jumpRelIf cc e s)⟩

/-- Settles O54: each pops PC, RET cc where its condition holds; RETI also sets IME. -/
theorem returnsPopPc : Obligations.ReturnsPopPc := by
  unfold Obligations.ReturnsPopPc
  exact fun s cc =>
    ⟨⟨.of_encode rfl rfl, .of rfl⟩,
      ⟨encodedAs_retIf cc, .of_holds (exec_retIf cc s)⟩,
      .of_encode rfl rfl, .of rfl⟩

end Sys2Proof.Machine
end

section
/-! CB-prefixed instructions (46_cb_prefixed.md R240 to R251): which shared meaning each form has and how it is encoded, what
writing an operand back is in its two places, and then the bit masks bit by bit. -/

namespace Sys2Proof.Machine

/-! ### The forms over the operand table -/

theorem exec_shift (op : ShiftOp) (l : Loc) (s : State) : exec (Form.shift op l) s = .next (shiftLoc op l s) := by
  rcases l with r | _
  case reg => cases op <;> cases r <;> rfl
  case memHl => cases op <;> rfl

theorem exec_bit (b : BitVec 3) (l : Loc) (s : State) : exec (Form.bit b l) s = .next (testBit b l s) := by
  rcases l with r | _
  case reg => cases r <;> rfl
  case memHl => rfl

theorem exec_res (b : BitVec 3) (l : Loc) (s : State) : exec (Form.res b l) s = .next (clearBit b l s) := by
  rcases l with r | _
  case reg => cases r <;> rfl
  case memHl => rfl

theorem exec_set (b : BitVec 3) (l : Loc) (s : State) : exec (Form.set b l) s = .next (raiseBit b l s) := by
  rcases l with r | _
  case reg => cases r <;> rfl
  case memHl => rfl

/-- `0xCB`, then `00fffsss` (46_cb_prefixed.md R241 to R248). -/
theorem encodedAs_shift (op : ShiftOp) (l : Loc) : EncodedAs (Form.shift op l) [0xCB, 8 * op.code + l.code] := by
  rcases l with r | _
  case reg => cases op <;> cases r <;> exact .of_encode rfl rfl
  case memHl => cases op <;> exact .of_encode rfl rfl

/-- `0xCB`, then `01bbbsss` (46_cb_prefixed.md R249). -/
theorem encodedAs_bit (b : BitVec 3) (l : Loc) : EncodedAs (Form.bit b l) [0xCB, 0x40 + 8 * b.setWidth 8 + l.code] := by
  rcases l with r | _
  case reg => cases r <;> cases b using field_cases <;> exact .of_encode rfl rfl
  case memHl => cases b using field_cases <;> exact .of_encode rfl rfl

/-- `0xCB`, then `10bbbsss` (46_cb_prefixed.md R250). -/
theorem encodedAs_res (b : BitVec 3) (l : Loc) : EncodedAs (Form.res b l) [0xCB, 0x80 + 8 * b.setWidth 8 + l.code] := by
  rcases l with r | _
  case reg => cases r <;> cases b using field_cases <;> exact .of_encode rfl rfl
  case memHl => cases b using field_cases <;> exact .of_encode rfl rfl

/-- `0xCB`, then `11bbbsss` (46_cb_prefixed.md R251). -/
theorem encodedAs_set (b : BitVec 3) (l : Loc) : EncodedAs (Form.set b l) [0xCB, 0xC0 + 8 * b.setWidth 8 + l.code] := by
  rcases l with r | _
  case reg => cases r <;> cases b using field_cases <;> exact .of_encode rfl rfl
  case memHl => cases b using field_cases <;> exact .of_encode rfl rfl

/-! ### Rotates and shifts -/

/-- The flags of a rotate or shift: Z from the result, C the bit moved out (46_cb_prefixed.md R240). -/
theorem flagsAre_shift (op : ShiftOp) (v : Byte) (carry : Bool) :
    FlagsAre (shiftFlags (shiftApply op v carry).1 (shiftApply op v carry).2).pack
      (decide ((shiftApply op v carry).1 = 0)) false false (shiftedValue v.toNat carry op).2 :=
  shiftApply_carry op v carry ▸ Flags.flagsAre_pack _

/-- Settles O55: the result and the bit moved out are those of `shiftApply_toNat` and `shiftApply_carry`, written back to the
register or stored at HL. -/
theorem rotatesAndShifts : Obligations.RotatesAndShifts := by
  unfold Obligations.RotatesAndShifts
  rintro s op l _ rfl
  refine ⟨encodedAs_shift op l, _, _, shiftApply_toNat op _ _, flagsAre_shift op _ _, ?reg, ?memHl⟩
  case reg =>
    rintro d rfl
    exact .of_setR8_setFlags (exec_shift op (.reg d) s)
  case memHl =>
    rintro rfl
    exact .of_busWrite_setFlags (exec_shift op .memHl s)

/-! ### Bits -/

theorem bitMask_getLsbD (b : BitVec 3) (n : Nat) : (bitMask b).getLsbD n = decide (n = b.toNat) := by
  have hmask : bitMask b = BitVec.twoPow 8 b.toNat := rfl
  rw [hmask, BitVec.getLsbD_twoPow, decide_eq_true b.isLt, Bool.true_and]
  exact decide_eq_decide.2 eq_comm

/-- The mask's complement clears bit `b` and keeps the others (46_cb_prefixed.md R250). -/
theorem eq_and_not_bitMask {b : BitVec 3} {v r : Byte}
    (h : ∀ n, r.getLsbD n = (v.getLsbD n && decide (n ≠ b.toNat))) : r = v &&& ~~~ bitMask b := by
  refine BitVec.eq_of_getLsbD_eq fun n hn => ?_
  rw [h, BitVec.getLsbD_and, BitVec.getLsbD_not, bitMask_getLsbD, decide_eq_true hn, Bool.true_and, decide_not]

/-- The mask raises bit `b` and keeps the others (46_cb_prefixed.md R251). -/
theorem eq_or_bitMask {b : BitVec 3} {v r : Byte}
    (h : ∀ n, r.getLsbD n = (v.getLsbD n || decide (n = b.toNat))) : r = v ||| bitMask b := by
  refine BitVec.eq_of_getLsbD_eq fun n _ => ?_
  rw [h, BitVec.getLsbD_or, bitMask_getLsbD]

theorem locCost_eq (l : Loc) (reg mem : Nat) : locCost l reg mem = if l = .memHl then mem else reg := by
  cases l <;> rfl

/-- BIT writes F and the M-cycle count. -/
theorem testBit_eq (b : BitVec 3) (l : Loc) (s : State) :
    testBit b l s = { s with cpu := { s.cpu with
      f := Flags.pack { z := !bit (getLoc s l) b.toNat, n := false, h := true, c := s.flags.c }
      cycles := if l = .memHl then 3 else 2 } } := by
  rw [testBit, State.setFlags_eq, locCost_eq]; rfl

/-- A meaning that writes its operand back and no flag is a write to one register, or one store at HL. -/
theorem registersOnly_and_storesByte_of_putLoc {i : Instr} {s : State} {l : Loc} {v : Byte}
    (h : exec i s = .next ((putLoc s l v).took (locCost l 2 4))) :
    (∀ d, l = .reg d → RegistersOnly i s { (s.setR8 d v).cpu with cycles := 2 })
      ∧ (l = .memHl → StoresByte i s s.hl v { s.cpu with cycles := 4 }) := by
  constructor
  · rintro d rfl
    exact .of_setR8 h
  · rintro rfl
    exact .of_took h

/-- Settles O56: BIT is `testBit_eq`; RES and SET write back the operand with the mask's bit cleared or raised. -/
theorem bitTestsClearsAndSets : Obligations.BitTestsClearsAndSets := by
  unfold Obligations.BitTestsClearsAndSets
  rintro s b l _ cleared raised rfl hcleared hraised
  obtain rfl := eq_and_not_bitMask hcleared
  obtain rfl := eq_or_bitMask hraised
  exact
    ⟨⟨encodedAs_bit b l, _, Flags.flagsAre_pack _, .of ((exec_bit b l s).trans (congrArg _ (testBit_eq b l s)))⟩,
      ⟨encodedAs_res b l, registersOnly_and_storesByte_of_putLoc (exec_res b l s)⟩,
      encodedAs_set b l, registersOnly_and_storesByte_of_putLoc (exec_set b l s)⟩

end Sys2Proof.Machine
end

section
/-! System instructions and the unassigned opcodes (47_system.md R260 to R265): each is its encoding and an update of the CPU's
registers; an unassigned opcode is a report as well. -/

namespace Sys2Proof.Machine

/-- Settles O58: each changes CPU registers only. -/
theorem systemInstructions : Obligations.SystemInstructions := by
  unfold Obligations.SystemInstructions
  exact fun s pad =>
    ⟨⟨.of_encode rfl rfl, .of rfl⟩,
      ⟨.of_encode rfl rfl, .of rfl⟩,
      ⟨.of_encode rfl rfl, .of rfl⟩,
      ⟨.of_encode rfl rfl, .of rfl⟩,
      .of_encode rfl rfl, .of rfl⟩

/-! ### The unassigned opcodes -/

/-- Each unassigned opcode is an instruction's whole encoding (30_encoding.md R97). -/
theorem encodedAs_of_mem_unassignedOpcodes {op : Byte} {i : Instr} (h : (op, i) ∈ unassignedOpcodes) : EncodedAs i [op] := by
  have htable : ∀ p ∈ unassignedOpcodes, encode p.2 = [p.1] ∧ p.2.wf = true := by decide
  obtain ⟨hbytes, hwf⟩ := htable _ h
  exact .of_encode hbytes hwf

/-- The eleven share one meaning, each with its own byte (47_system.md R265). -/
theorem exec_of_mem_unassignedOpcodes {op : Byte} {i : Instr} (h : (op, i) ∈ unassignedOpcodes) (s : State) :
    exec i s = .next (unassigned op s) := by
  simp only [unassignedOpcodes, List.mem_cons, List.not_mem_nil, or_false, Prod.mk.injEq] at h
  obtain ⟨rfl, rfl⟩ | ⟨rfl, rfl⟩ | ⟨rfl, rfl⟩ | ⟨rfl, rfl⟩ | ⟨rfl, rfl⟩ | ⟨rfl, rfl⟩ | ⟨rfl, rfl⟩ | ⟨rfl, rfl⟩ | ⟨rfl, rfl⟩
    | ⟨rfl, rfl⟩ | ⟨rfl, rfl⟩ := h <;> rfl

/-- An unassigned opcode writes the report and the M-cycle count (decisions D9, D32). -/
theorem unassigned_eq (op : Byte) (s : State) :
    unassigned op s = { s with cpu.cycles := 1, out.reports := op :: s.out.reports } := rfl

@[simp] theorem busRead_unassigned (op : Byte) (s : State) (a : Addr) : busRead (unassigned op s) a = busRead s a :=
  busRead_congr rfl rfl rfl rfl rfl a

/-- Settles O59: all eleven run `unassigned` at their own byte, which no bus read sees. -/
theorem unassignedOpcodesAreReportedNoOps : Obligations.UnassignedOpcodesAreReportedNoOps := by
  unfold Obligations.UnassignedOpcodesAreReportedNoOps
  exact fun s op i h =>
    ⟨encodedAs_of_mem_unassignedOpcodes h, unassigned op s, exec_of_mem_unassignedOpcodes h s, unassigned_eq op s,
      busRead_unassigned op s⟩

end Sys2Proof.Machine
end

section
/-! The PPU's position in the frame and the mode it forces, dot by dot (60_exceptions.md R342 to R345, R369). -/

namespace Sys2Proof.Machine

/-- The position is one of the 154 lines of 456 dots (60_exceptions.md R344, R345). -/
def InFrame (p : Ppu) : Prop := p.ly.toNat ≤ 153 ∧ p.dots ≤ 455

/-- A dot within a line, at a line's end, and at the frame's end (60_exceptions.md R344, R345). -/
theorem dotStep_position {s : State} (h : InFrame s.ppu) :
    (s.ppu.dots < 455 ∧ (dotStep s).ppu.ly.toNat = s.ppu.ly.toNat ∧ (dotStep s).ppu.dots = s.ppu.dots + 1)
      ∨ (s.ppu.dots = 455 ∧ s.ppu.ly.toNat < 153 ∧ (dotStep s).ppu.ly.toNat = s.ppu.ly.toNat + 1 ∧ (dotStep s).ppu.dots = 0)
      ∨ (s.ppu.dots = 455 ∧ s.ppu.ly.toNat = 153 ∧ (dotStep s).ppu.ly.toNat = 0 ∧ (dotStep s).ppu.dots = 0) := by
  obtain ⟨hline, hdots⟩ := h
  rw [dotStep_ly, dotStep_dots]
  by_cases hend : s.ppu.dots = 455
  · rw [if_pos hend, if_pos hend]
    by_cases hlast : s.ppu.ly.toNat = 153
    · exact .inr (.inr ⟨hend, hlast, by rw [if_pos hlast]; rfl, rfl⟩)
    · exact .inr (.inl ⟨hend, by omega, by rw [if_neg hlast, line_succ_toNat hline], rfl⟩)
  · rw [if_neg hend, if_neg hend]
    exact .inl ⟨by omega, rfl, rfl⟩

theorem dotStep_inFrame {s : State} (h : InFrame s.ppu) : InFrame (dotStep s).ppu := by
  have hpos := dotStep_position h
  obtain ⟨hline, hdots⟩ := h
  exact ⟨by omega, by omega⟩

theorem dotSteps_inFrame (k : Nat) {s : State} (h : InFrame s.ppu) : InFrame (dotSteps k s).ppu :=
  dotSteps_induction (P := fun s => InFrame s.ppu) (fun _ => dotStep_inFrame) k s h

theorem framePosition_lt {p : Ppu} (h : InFrame p) : framePosition p < 70224 := by
  obtain ⟨hline, hdots⟩ := h
  unfold framePosition
  omega

/-- The position advances by one a dot, modulo the 154 lines of 456 dots. -/
theorem dotStep_framePosition {s : State} (h : InFrame s.ppu) :
    framePosition (dotStep s).ppu = (framePosition s.ppu + 1) % 70224 := by
  have hpos := dotStep_position h
  obtain ⟨hline, hdots⟩ := h
  unfold framePosition
  omega

theorem dotSteps_framePosition (k : Nat) {s : State} (h : InFrame s.ppu) :
    framePosition (dotSteps k s).ppu = (framePosition s.ppu + k) % 70224 := by
  induction k generalizing s with
  | zero => exact (Nat.mod_eq_of_lt (framePosition_lt h)).symm
  | succ k ih =>
    calc framePosition (dotSteps k (dotStep s)).ppu
      _ = ((framePosition s.ppu + 1) % 70224 + k) % 70224 := by rw [ih (dotStep_inFrame h), dotStep_framePosition h]
      _ = (framePosition s.ppu + (k + 1)) % 70224 := by omega

/-! ### The mode -/

/-- The mode the position forces, case by case of the position. -/
theorem modeTimed_iff (p : Ppu) :
    ModeTimed p ↔
      (p.ly.toNat = 0 → p.dots = 0 → p.mode = .oamScan ∨ p.mode = .vblank)
        ∧ (p.ly.toNat ≤ 143 → 0 < p.dots → p.dots ≤ 80 → p.mode = .oamScan)
        ∧ (p.ly.toNat ≤ 143 → 80 < p.dots → p.dots ≤ 252 → p.mode = .draw)
        ∧ (p.ly.toNat ≤ 143 → 252 < p.dots → p.mode = .hblank)
        ∧ (0 < p.ly.toNat → p.ly.toNat ≤ 144 → p.dots = 0 → p.mode = .hblank)
        ∧ (144 ≤ p.ly.toNat → (p.ly.toNat = 144 → 0 < p.dots) → p.mode = .vblank) := by
  have hzero : p.ly = 0 ↔ p.ly.toNat = 0 := BitVec.toNat_inj.symm
  unfold ModeTimed
  simp only [hzero]
  split_ifs <;> grind

/-- Each dot keeps the mode in time: the events at dots 1, 81 and 253 of a visible line, at dot 1 of line 144, and at the
frame's end (60_exceptions.md R342, R343, R345). -/
theorem dotStep_modeTimed {s : State} (h : InFrame s.ppu) (hm : ModeTimed s.ppu) : ModeTimed (dotStep s).ppu := by
  rw [modeTimed_iff] at hm ⊢
  rw [dotStep_mode]
  obtain ⟨hd, hl', hd'⟩ | ⟨hd, hl, hl', hd'⟩ | ⟨hd, hl, hl', hd'⟩ := dotStep_position h
  · obtain ⟨hline, -⟩ := h
    rw [hl', hd']
    grind
  · rw [hl', hd']
    grind
  · rw [hl', hd']
    grind

/-- The timing follows the position and the mode. -/
theorem PpuTiming.congr {s t : State} (h : PpuTiming s) (hl : t.ppu.ly = s.ppu.ly) (hd : t.ppu.dots = s.ppu.dots)
    (hm : t.ppu.mode = s.ppu.mode) : PpuTiming t where
  line := hl ▸ h.line
  dots := hd ▸ h.dots
  aligned := hd ▸ h.aligned
  mode := by
    have := h.mode
    unfold ModeTimed at this ⊢
    rwa [hl, hd, hm]

/-- The PPU keeps its timing, and its alignment since the dots of a tick, of a line and of a frame are multiples of four. -/
theorem ppuTick_ppuTiming (n : Nat) {s : State} (h : PpuTiming s) : PpuTiming (ppuTick n s) := by
  have hframe : InFrame s.ppu := ⟨h.line, h.dots⟩
  obtain ⟨hin, hmode⟩ : InFrame (ppuTick n s).ppu ∧ ModeTimed (ppuTick n s).ppu :=
    dotSteps_induction (P := fun s => InFrame s.ppu ∧ ModeTimed s.ppu)
      (fun _ ⟨hin, hmode⟩ => ⟨dotStep_inFrame hin, dotStep_modeTimed hin hmode⟩) (4 * n) s ⟨hframe, h.mode⟩
  have hposition : framePosition (ppuTick n s).ppu = _ := dotSteps_framePosition (4 * n) hframe
  have haligned := h.aligned
  unfold framePosition at hposition
  obtain ⟨hline, hdots⟩ := hin
  exact ⟨hline, hdots, by omega, hmode⟩

/-- Settles O13: the CPU step holds the position and the mode, the PPU's dots keep the timing, the timer and the latch touch
neither. -/
theorem everyStepKeepsThePpuTiming : Obligations.EveryStepKeepsThePpuTiming := by
  unfold Obligations.EveryStepKeepsThePpuTiming
  intro s t h hstep
  obtain ⟨u, -, ⟨hruns, -, -⟩, rfl⟩ := step_next hstep
  have hcpu : PpuTiming u := h.congr hruns.devices.line hruns.devices.dots hruns.devices.mode
  exact (ppuTick_ppuTiming u.cpu.cycles hcpu).congr rfl rfl rfl

/-! ### Frames -/

/-- A frame is output exactly where the position wraps (60_exceptions.md R345, R368). -/
theorem dotStep_frames_length {s : State} (h : InFrame s.ppu) :
    (dotStep s).out.frames.length = s.out.frames.length + (framePosition s.ppu + 1) / 70224 := by
  obtain ⟨hline, hdots⟩ := h
  unfold framePosition
  rw [dotStep_frames]
  split
  · rw [List.length_cons]; omega
  · omega

theorem dotSteps_frames_length (k : Nat) {s : State} (h : InFrame s.ppu) :
    (dotSteps k s).out.frames.length = s.out.frames.length + (framePosition s.ppu + k) / 70224 := by
  induction k generalizing s with
  | zero => rw [Nat.add_zero, Nat.div_eq_of_lt (framePosition_lt h)]; rfl
  | succ k ih =>
    have hrest := ih (dotStep_inFrame h)
    rw [dotStep_framePosition h, dotStep_frames_length h] at hrest
    show (dotSteps k (dotStep s)).out.frames.length = _
    omega

/-- The dot that ends the frame draws nothing. -/
theorem dotStep_fb_of_frameEnd {s : State} (hl : s.ppu.ly = 153) : (dotStep s).ppu.fb = s.ppu.fb := by
  show (endDot (beginDot s.mem s.ppu)).fb = _
  rw [endDot_fb]
  simp [beginDot, modeEvents, hl]

/-- Settles O28: dot by dot, by the position before each. -/
theorem framesAreOutputEverySeventyThousandDots : Obligations.FramesAreOutputEverySeventyThousandDots := by
  unfold Obligations.FramesAreOutputEverySeventyThousandDots
  refine ⟨fun k s hl hd => ?_, fun s hl hd => ⟨?_, dotStep_fb_of_frameEnd hl⟩⟩
  · have hframe : InFrame s.ppu := ⟨hl, hd⟩
    obtain ⟨hline, hdots⟩ := dotSteps_inFrame k hframe
    exact ⟨dotSteps_framePosition k hframe, hline, hdots, dotSteps_frames_length k hframe⟩
  · rw [dotStep_frames, if_pos ⟨hd, by rw [hl]; rfl⟩]

end Sys2Proof.Machine
end

section
/-! The system step as its parts, the halted step, the EI delay and the dispatch (60_exceptions.md R300 to R307), and the reset
values the document gives (70_reset_and_hazards.md R401). -/

namespace Sys2Proof.Machine

/-! ### The step completes -/

/-- The system step after the CPU step (60_exceptions.md R300). -/
theorem step_of_cpuStep {s t : State} (h : cpuStep s = .next t) :
    step s = .next (latch (timerTick t.cpu.cycles (ppuTick t.cpu.cycles t))) := by
  rw [step, h]; rfl

/-- Settles O6: the CPU step completes from every state, and the devices follow it. -/
theorem everyStateStepsInOneToSixCycles : Obligations.EveryStateStepsInOneToSixCycles := by
  unfold Obligations.EveryStateStepsInOneToSixCycles
  intro s
  obtain ⟨t, ht, hc⟩ := cpuStep_completes s
  exact ⟨t, ht, hc.positive, hc.atMostSix, step_of_cpuStep ht⟩

/-- Settles O7: what completes holds the devices. -/
theorem cpuStepHoldsTheDevices : Obligations.CpuStepHoldsTheDevices := by
  unfold Obligations.CpuStepHoldsTheDevices
  intro s t h
  obtain ⟨u, hu, hc⟩ := cpuStep_completes s
  cases hu.symm.trans h
  exact hc.runs.devices

/-! ### The CPU step, case by case (60_exceptions.md R301) -/

theorem cpuStep_of_halted {s : State} (h : s.cpu.halted = true) : cpuStep s = .next (haltedStep s) := by
  rw [cpuStep, if_pos h]

theorem cpuStep_of_dispatched {s : State} {i : Interrupt} (h : s.cpu.halted = false)
    (hi : dispatched (resolveImeDelay s) = some i) : cpuStep s = .next (takeInterrupt i (resolveImeDelay s)) := by
  simp [cpuStep, h, hi]

theorem cpuStep_of_not_dispatched {s : State} (h : s.cpu.halted = false) (hi : dispatched (resolveImeDelay s) = none) :
    cpuStep s = runInstruction (resolveImeDelay s) := by
  simp [cpuStep, h, hi]

/-! ### The halted step -/

theorem haltedStep_eq {s : State} (h : s.cpu.halted = true) :
    haltedStep s = { s with cpu.halted := decide (pending s = 0), cpu.cycles := 1 } := by
  unfold haltedStep
  by_cases hp : pending s = 0
  · rw [if_neg (not_not_intro hp), decide_eq_true hp, ← h]; rfl
  · rw [if_pos hp, decide_eq_false hp]; rfl

/-- With no source enabled nothing is pending, whatever is requested. -/
theorem pending_eq_zero_of_none_enabled {s : State} (h : s.bus.ieReg &&& 0x1F = 0) : pending s = 0 :=
  calc s.bus.ieReg &&& s.bus.ifReg &&& 0x1F
    _ = s.bus.ifReg &&& (s.bus.ieReg &&& 0x1F) := by rw [BitVec.and_comm s.bus.ieReg, BitVec.and_assoc]
    _ = 0 := by rw [h]; exact BitVec.and_zero

/-- The devices leave the CPU, IE and memory alone. -/
theorem advanceDevices_others (n : Nat) (s : State) :
    (advanceDevices n s).cpu = s.cpu ∧ (advanceDevices n s).bus.ieReg = s.bus.ieReg ∧ (advanceDevices n s).mem = s.mem := by
  obtain ⟨hcpu, hbus, -, hmem, -, -⟩ := dotSteps_others (4 * n) s
  have hie : (advanceDevices n s).bus.ieReg = (dotSteps (4 * n) s).bus.ieReg := rfl
  exact ⟨hcpu, hie.trans (congrArg BusRegs.ieReg hbus), hmem⟩

/-- Settles O15: the CPU step is the halted step, which touches `halted` and the M-cycle count only. -/
theorem haltedStepsOnlyWaitForAnEnabledRequest : Obligations.HaltedStepsOnlyWaitForAnEnabledRequest := by
  unfold Obligations.HaltedStepsOnlyWaitForAnEnabledRequest
  intro s h
  have hstep : step s = .next (advanceDevices 1 { s with cpu.halted := decide (pending s = 0), cpu.cycles := 1 }) := by
    have hcpu := step_of_cpuStep (cpuStep_of_halted h)
    rwa [haltedStep_eq h] at hcpu
  refine ⟨hstep, fun hnone t ht => ?_⟩
  cases hstep.symm.trans ht
  obtain ⟨hcpu, hie, hmem⟩ := advanceDevices_others 1 { s with cpu.halted := decide (pending s = 0), cpu.cycles := 1 }
  refine ⟨hcpu.trans ?_, hie, hmem⟩
  rw [decide_eq_true (pending_eq_zero_of_none_enabled hnone), ← h]

/-! ### The EI delay -/

theorem resolveImeDelay_zero {s : State} (h : s.cpu.imeDelay = 0) : resolveImeDelay s = s := by
  simp [resolveImeDelay, h]

theorem resolveImeDelay_one {s : State} (h : s.cpu.imeDelay = 1) :
    resolveImeDelay s = { s with cpu.imeDelay := 0, cpu.ime := true } := by
  simp [resolveImeDelay, h, State.setImeDelay, State.setIme]

theorem resolveImeDelay_two {s : State} (h : s.cpu.imeDelay = 2) : resolveImeDelay s = { s with cpu.imeDelay := 1 } := by
  simp [resolveImeDelay, h, State.setImeDelay]

/-- Handling the EI delay touches `ime_delay` and IME only. -/
theorem resolveImeDelay_eq (s : State) :
    resolveImeDelay s =
      { s with cpu.imeDelay := (resolveImeDelay s).cpu.imeDelay, cpu.ime := (resolveImeDelay s).cpu.ime } := by
  unfold resolveImeDelay
  dsimp only
  split
  · split <;> rfl
  · rfl

/-- So every address reads as before. -/
@[simp] theorem busRead_resolveImeDelay (s : State) (a : Addr) : busRead (resolveImeDelay s) a = busRead s a := by
  rw [resolveImeDelay_eq, busRead_cpu]

@[simp] theorem resolveImeDelay_pc (s : State) : (resolveImeDelay s).cpu.pc = s.cpu.pc := by rw [resolveImeDelay_eq]

/-! ### The source dispatched -/

/-- A pending bit is a bit of both IE and IF, and one of the five. -/
theorem bit_pending (s : State) (n : Nat) :
    bit (pending s) n = ((s.bus.ieReg &&& s.bus.ifReg).getLsbD n && decide (n < 5)) := by
  have hmask : (0x1F : Byte).getLsbD n = decide (n < 5) := by
    rw [show (0x1F : Byte) = BitVec.ofNat 8 (2 ^ 5 - 1) from rfl, BitVec.getLsbD_ofNat, Nat.testBit_two_pow_sub_one]
    by_cases h : n < 5
    · simp [h]; omega
    · simp [h]
  rw [bit, pending, BitVec.getLsbD_and, hmask]

theorem dispatched_of_ime {s : State} (h : s.cpu.ime = true) : dispatched s = firstSource (pending s) := by
  rw [dispatched, if_pos h]

theorem dispatched_of_not_ime {s : State} (h : s.cpu.ime = false) : dispatched s = none := by
  rw [dispatched, if_neg (by rw [h]; exact Bool.false_ne_true)]

theorem firstSource_zero : firstSource 0 = none := by decide

/-- A source is found among pending bits that are not all zero. -/
theorem exists_firstSource {p : Byte} (h : p &&& 0x1F ≠ 0) : ∃ i, firstSource (p &&& 0x1F) = some i := by
  rw [← Option.isSome_iff_exists]
  revert p
  decide

/-- The source of the lowest pending bit is the first (60_exceptions.md R307). -/
theorem firstSource_of_lowest {p : Byte} {i : Interrupt} (h : bit p i.index = true) (hlow : ∀ m < i.index, bit p m = false) :
    firstSource p = some i := by
  cases i <;> simp_all [firstSource, Interrupt.index]

/-- Each of the five bits has its source (60_exceptions.md R306). -/
theorem exists_index {n : Nat} (h : n < 5) : ∃ i : Interrupt, i.index = n := by
  match n, h with
  | 0, _ => exact ⟨.vblank, rfl⟩
  | 1, _ => exact ⟨.lcdStat, rfl⟩
  | 2, _ => exact ⟨.timer, rfl⟩
  | 3, _ => exact ⟨.serial, rfl⟩
  | 4, _ => exact ⟨.joypad, rfl⟩

/-- Settles O16: the delay by its three values, IME off dispatching nothing. -/
theorem enableDelayLetsOneInstructionRun : Obligations.EnableDelayLetsOneInstructionRun := by
  unfold Obligations.EnableDelayLetsOneInstructionRun
  intro s h
  refine ⟨fun hdelay hime => ?_, fun hdelay hpending => ?_, fun hdelay hpending => ?_, fun hdelay hime => ?_⟩
  · have hr := resolveImeDelay_two hdelay
    rw [cpuStep_of_not_dispatched h (by rw [hr]; exact dispatched_of_not_ime hime), hr]
  · have hr := resolveImeDelay_one hdelay
    have hnone : dispatched (resolveImeDelay s) = none := by
      rw [hr, dispatched_of_ime rfl]
      exact (congrArg firstSource hpending).trans firstSource_zero
    rw [cpuStep_of_not_dispatched h hnone, hr]
  · have hr := resolveImeDelay_one hdelay
    obtain ⟨i, hi⟩ : ∃ i, firstSource (pending s) = some i := exists_firstSource hpending
    have hsome : dispatched (resolveImeDelay s) = some i := by rw [hr, dispatched_of_ime rfl]; exact hi
    exact ⟨i, hi, by rw [cpuStep_of_dispatched h hsome, hr]⟩
  · have hr := resolveImeDelay_zero hdelay
    rw [cpuStep_of_not_dispatched h (by rw [hr]; exact dispatched_of_not_ime hime), hr]

/-! ### The dispatch -/

theorem Interrupt.vector_eq (i : Interrupt) : i.vector = BitVec.ofNat 16 (0x0040 + 8 * i.index) := by cases i <;> rfl

/-- The whole next state of a dispatch (60_exceptions.md R305). -/
theorem takeInterrupt_eq (i : Interrupt) (s : State) :
    takeInterrupt i s =
      { pushWrites s s.cpu.pc with
        cpu := { s.cpu with
          sp := s.cpu.sp - 2, pc := BitVec.ofNat 16 (0x0040 + 8 * i.index), ime := false, halted := false, cycles := 5 }
        bus.ifReg := (pushWrites s s.cpu.pc).bus.ifReg &&& ~~~ (1 <<< i.index : Byte) } := by
  rw [takeInterrupt, push16_eq, i.vector_eq]; rfl

/-- IF is read at its own address only. -/
theorem busRead_setIf (s : State) (v : Byte) {a : Addr} (h : a ≠ 0xFF0F) : busRead (s.setIf v) a = busRead s a :=
  busRead_ioWrite s (r := .ifReg) v h (fun h => nomatch h)

/-- A dispatch leaves every address but IF's that its two stores do not reach reading as before. -/
theorem busRead_takeInterrupt (i : Interrupt) {s : State} {a : Addr} (h : a ≠ 0xFF0F)
    (hhi : ¬ StoreReaches s (s.cpu.sp - 1) a) (hlo : ¬ StoreReaches s (s.cpu.sp - 2) a) :
    busRead (takeInterrupt i s) a = busRead s a := by
  rw [takeInterrupt_eq]
  calc busRead ((pushWrites s s.cpu.pc).setIf _) a
    _ = busRead (pushWrites s s.cpu.pc) a := busRead_setIf _ _ h
    _ = busRead s a := busRead_busWrite_busWrite _ _ hhi hlo

/-- Settles O17: the lowest bit's source is the first, and taking it is one push and the register updates of its rule. -/
theorem lowestEnabledRequestIsDispatched : Obligations.LowestEnabledRequestIsDispatched := by
  unfold Obligations.LowestEnabledRequestIsDispatched
  rintro s d h rfl
  refine ⟨fun n hn hime hbit hlow => ?_, fun hquiet => cpuStep_of_not_dispatched h ?_⟩
  · obtain ⟨i, rfl⟩ := exists_index hn
    have hfirst : firstSource (pending (resolveImeDelay s)) = some i :=
      firstSource_of_lowest (by rw [bit_pending, hbit, decide_eq_true hn]; rfl)
        (fun m hm => by rw [bit_pending, hlow m hm, Bool.false_and])
    have hsome : dispatched (resolveImeDelay s) = some i := (dispatched_of_ime hime).trans hfirst
    refine ⟨_, cpuStep_of_dispatched h hsome, takeInterrupt_eq i _, fun a ha hhi hlo => ?_⟩
    rw [busRead_takeInterrupt i ha hhi hlo, busRead_resolveImeDelay]
  · obtain hoff | hnone := hquiet
    · exact dispatched_of_not_ime hoff
    · rw [dispatched, show pending (resolveImeDelay s) = 0 from hnone, firstSource_zero, ite_self]

/-! ### The instruction at PC -/

theorem lengthOfFirst_le_three (op : Byte) : lengthOfFirst op ≤ 3 := by
  unfold lengthOfFirst
  split
  · decide
  · split <;> decide

/-- No instruction has more than three bytes (30_encoding.md R90). -/
theorem encode_length_le_three {i : Instr} (hwf : i.wf = true) : (encode i).length ≤ 3 := by
  have hdecode := decodeInvertsEncode i hwf []
  rw [List.append_nil] at hdecode
  cases hbytes : encode i with
  | nil => exact Nat.zero_le 3
  | cons op tail =>
    rw [hbytes] at hdecode
    obtain ⟨j, rest, hok, -, -, hlen⟩ | ⟨herr, -⟩ := decode_cons op tail
    · cases hok.symm.trans hdecode
      rw [← hbytes, hlen]
      exact lengthOfFirst_le_three op
    · cases herr.symm.trans hdecode

theorem fetchBytes_getElem (s : State) (k : Nat) (h : k < (fetchBytes s).length) :
    (fetchBytes s)[k] = busRead s (s.cpu.pc + BitVec.ofNat 16 k) := by
  match k, h with
  | 0, _ => simp [fetchBytes]
  | 1, _ => rfl
  | 2, _ => rfl

/-- The bytes at PC begin with the encoding that stands there. -/
theorem fetchBytes_eq_append {s : State} {i : Instr} (hwf : i.wf = true)
    (h : ∀ k (hk : k < (encode i).length), busRead s (s.cpu.pc + BitVec.ofNat 16 k) = (encode i)[k]) :
    fetchBytes s = encode i ++ (fetchBytes s).drop (encode i).length := by
  have hthree : (encode i).length ≤ (fetchBytes s).length := encode_length_le_three hwf
  have htake : (fetchBytes s).take (encode i).length = encode i := by
    refine List.ext_getElem (by simp [hthree]) fun k hk hk' => ?_
    rw [List.getElem_take, fetchBytes_getElem, h k hk']
  calc fetchBytes s
    _ = (fetchBytes s).take (encode i).length ++ (fetchBytes s).drop (encode i).length := (List.take_append_drop _ _).symm
    _ = encode i ++ (fetchBytes s).drop (encode i).length := by rw [htake]

/-- A fetch finds the instruction whose encoding stands at PC, and moves PC past its bytes (10_state.md R15). -/
theorem fetch_of_encoding {s : State} {i : Instr} (hwf : i.wf = true)
    (h : ∀ k (hk : k < (encode i).length), busRead s (s.cpu.pc + BitVec.ofNat 16 k) = (encode i)[k]) :
    fetch s = .ok (i, s.setPc (s.cpu.pc + BitVec.ofNat 16 (encode i).length)) := by
  have hbytes := fetchBytes_eq_append hwf h
  have hdecode : decode (fetchBytes s) = .ok (i, (fetchBytes s).drop (encode i).length) :=
    (congrArg decode hbytes).trans (decodeInvertsEncode i hwf _)
  have hcount : (fetchBytes s).length - ((fetchBytes s).drop (encode i).length).length = (encode i).length := by
    have := encode_length_le_three hwf
    rw [List.length_drop, show (fetchBytes s).length = 3 from rfl]
    omega
  rw [fetch, hdecode]
  dsimp only
  rw [hcount]

/-- Settles O5: the fetch after the EI delay finds the instruction, and the step runs it. -/
theorem stepRunsTheDecodedInstruction : Obligations.StepRunsTheDecodedInstruction := by
  unfold Obligations.StepRunsTheDecodedInstruction
  intro s i h hnone hwf hbytes
  have hfetch : fetch (resolveImeDelay s) = _ := fetch_of_encoding hwf (by simpa using hbytes)
  rw [resolveImeDelay_pc] at hfetch
  rw [step, cpuStep_of_not_dispatched h hnone, runInstruction, hfetch]
  rfl

/-! ### Reset -/

/-- Settles O9: the fields of the reset record, and a read of the ROM area. -/
theorem resetGivesTheDocumentedValues : Obligations.ResetGivesTheDocumentedValues := by
  unfold Obligations.ResetGivesTheDocumentedValues
  rintro mem fb cart _ rfl
  have hrom (a : Addr) (h : a.toNat ≤ 0x7FFF) : cartridgeOwns a = true :=
    (cartridgeOwns_iff a).2 (.inl ((regionOf_rom a).2 h))
  exact ⟨rfl, rfl, rfl, rfl, rfl, rfl, rfl, rfl, rfl, rfl, rfl, rfl, rfl, fun a h => busRead_cartridge _ (hrom a h)⟩

end Sys2Proof.Machine
end

section
/-! The timer over a tick of any length: its two counters as quotient and remainder (60_exceptions.md R330 to R333). -/

namespace Sys2Proof.Machine

/-! ### A tick in closed form -/

/-- A tick of a stopped timer moves the divider only (60_exceptions.md R331). -/
theorem tickTimer_stopped (n : Nat) {t : Timer} (h : timerEnabled t.tac = false) :
    tickTimer n t = tickDivider n t := by
  rw [tickTimer, tickCounter, if_neg (by rw [show (tickDivider n t).tac = t.tac from rfl, h]; exact Bool.false_ne_true)]

/-- A tick of a running timer moves the divider, and counts TIMA once for each whole period (60_exceptions.md R331, R332). -/
theorem tickTimer_running (n : Nat) {t : Timer} (h : timerEnabled t.tac = true) :
    tickTimer n t =
      { countTimaTimes ((t.timaRemainder + n) / timerPeriod t.tac) t with
        div := t.div + BitVec.ofNat 8 ((t.divRemainder + n) / 64)
        divRemainder := (t.divRemainder + n) % 64
        timaRemainder := (t.timaRemainder + n) % timerPeriod t.tac } := by
  have htac : (tickDivider n t).tac = t.tac := rfl
  have hscale : n * Config.timerCycleScale = n := Nat.mul_one n
  rw [← countTimaTimes_others, tickTimer, tickCounter, htac, if_pos h, hscale]
  rfl

theorem tickTimer_div (n : Nat) (t : Timer) : (tickTimer n t).div = t.div + BitVec.ofNat 8 ((t.divRemainder + n) / 64) := by
  cases h : timerEnabled t.tac with
  | false => rw [tickTimer_stopped n h]; rfl
  | true => rw [tickTimer_running n h]

/-! ### Ticks add up -/

/-- The whole periods of two ticks, the first's remainder carried into the second. -/
theorem div_add_mod_add_div (a n : Nat) {p : Nat} (hp : 0 < p) : a / p + (a % p + n) / p = (a + n) / p :=
  calc a / p + (a % p + n) / p
    _ = (p * (a / p) + (a % p + n)) / p := (Nat.mul_add_div hp _ _).symm
    _ = (a + n) / p := by rw [← Nat.add_assoc, Nat.div_add_mod]

theorem tickDivider_add (m n : Nat) (t : Timer) : tickDivider n (tickDivider m t) = tickDivider (m + n) t := by
  have hdiv := div_add_mod_add_div (t.divRemainder + m) n (p := 64) (by decide)
  rw [Nat.add_assoc] at hdiv
  simp only [tickDivider, Nat.mod_add_mod, BitVec.add_assoc, ← BitVec.ofNat_add, hdiv, Nat.add_assoc]

/-- Settles O19: quotients add and remainders carry, for the divider and, where it runs, for TIMA. -/
theorem timerTicksAddUp : Obligations.TimerTicksAddUp := by
  unfold Obligations.TimerTicksAddUp
  intro m n t
  have htac := tickTimer_tac m t
  cases h : timerEnabled t.tac with
  | false =>
    rw [tickTimer_stopped n (by rw [htac, h]), tickTimer_stopped m h, tickTimer_stopped (m + n) h, tickDivider_add]
  | true =>
    have hdiv := div_add_mod_add_div (t.divRemainder + m) n (p := 64) (by decide)
    have htima := div_add_mod_add_div (t.timaRemainder + m) n (timerPeriod_pos t.tac)
    rw [Nat.add_assoc] at hdiv htima
    rw [tickTimer_running n (by rw [htac, h]), htac, tickTimer_running m h, tickTimer_running (m + n) h, ← htima,
      ← countTimaTimes_add, countTimaTimes_others]
    simp only [Nat.mod_add_mod, BitVec.add_assoc, ← BitVec.ofNat_add, hdiv, Nat.add_assoc]

/-! ### The divider over one step -/

/-- Settles O20: over at most six M-cycles the quotient is 0 or 1; the write is that of DIV's row. -/
theorem dividerCountsEverySixtyFourCycles : Obligations.DividerCountsEverySixtyFourCycles := by
  unfold Obligations.DividerCountsEverySixtyFourCycles
  intro n s hn hr
  rw [tickTimer_div, tickTimer_divRemainder]
  refine ⟨?_, ?_, fun v => ?_⟩
  · split
    · rename_i hlow
      rw [Nat.div_eq_of_lt hlow]
      exact BitVec.add_zero _
    · have hone : (s.timer.divRemainder + n) / 64 = 1 := by omega
      rw [hone]
      apply BitVec.eq_of_toNat_eq
      simp
  · split <;> omega
  · rw [show busWrite s 0xFF04 v = ioWrite s .div v from busWrite_ioAddr s .div v]
    exact ⟨rfl, rfl⟩

/-! ### TIMA -/

theorem countTima_below {t : Timer} (h : t.tima.toNat < 255) :
    (countTima t).tima.toNat = t.tima.toNat + 1 ∧ (countTima t).tma = t.tma ∧ (countTima t).req = t.req := by
  have hne : t.tima ≠ 0xFF := by
    intro heq
    rw [heq] at h
    exact absurd h (by decide)
  rw [countTima, if_neg hne]
  refine ⟨?_, rfl, rfl⟩
  rw [BitVec.toNat_add, show (1 : Byte).toNat = 1 from rfl]
  omega

theorem countTima_overflow {t : Timer} (h : t.tima.toNat = 255) : countTima t = { t with tima := t.tma, req := true } := by
  rw [countTima, if_pos (BitVec.eq_of_toNat_eq h)]

/-- `k` increments that do not pass 0xFF. -/
theorem countTimaTimes_within {k : Nat} {t : Timer} (h : t.tima.toNat + k ≤ 255) :
    (countTimaTimes k t).tima.toNat = t.tima.toNat + k ∧ (countTimaTimes k t).req = t.req := by
  induction k generalizing t with
  | zero => exact ⟨rfl, rfl⟩
  | succ k ih =>
    obtain ⟨htima, -, hreq⟩ := countTima_below (t := t) (by omega)
    obtain ⟨ihtima, ihreq⟩ := ih (t := countTima t) (by omega)
    exact ⟨ihtima.trans (by omega), ihreq.trans hreq⟩

/-- `k` increments that pass 0xFF: after the first overflow TIMA runs through the 256 - TMA values from TMA up. -/
theorem countTimaTimes_past {k : Nat} {t : Timer} (h : 255 < t.tima.toNat + k) :
    (countTimaTimes k t).tima.toNat = t.tma.toNat + (t.tima.toNat + k - 256) % (256 - t.tma.toNat)
      ∧ (countTimaTimes k t).req = true := by
  have htma := t.tma.isLt
  induction k generalizing t with
  | zero => exact absurd h (by have := t.tima.isLt; omega)
  | succ k ih =>
    show (countTimaTimes k (countTima t)).tima.toNat = _ ∧ (countTimaTimes k (countTima t)).req = true
    by_cases hfull : t.tima.toNat = 255
    · have hcount : t.tima.toNat + (k + 1) - 256 = k := by omega
      rw [countTima_overflow hfull, hcount]
      by_cases hk : t.tma.toNat + k ≤ 255
      · obtain ⟨htima, hreq⟩ := countTimaTimes_within (t := { t with tima := t.tma, req := true }) hk
        exact ⟨by rw [htima, Nat.mod_eq_of_lt (by omega)], hreq⟩
      · obtain ⟨htima, hreq⟩ := ih (t := { t with tima := t.tma, req := true }) (Nat.lt_of_not_le hk) htma
        have hround : k - (256 - t.tma.toNat) = t.tma.toNat + k - 256 := by omega
        have hcycle : k % (256 - t.tma.toNat) = (k - (256 - t.tma.toNat)) % (256 - t.tma.toNat) :=
          Nat.mod_eq_sub_mod (by omega)
        rw [hcycle, hround]
        exact ⟨htima, hreq⟩
    · have hbelow : t.tima.toNat < 255 := by have := t.tima.isLt; omega
      obtain ⟨htima, htma', -⟩ := countTima_below hbelow
      obtain ⟨ihtima, ihreq⟩ := ih (t := countTima t) (by omega) (by rw [htma']; exact htma)
      refine ⟨ihtima.trans ?_, ihreq⟩
      rw [htma', htima, Nat.add_right_comm, Nat.add_assoc]

/-- Settles O21: the increments of a tick are its whole periods, and `countTimaTimes` is closed on either side of 0xFF. -/
theorem counterReloadsFromTmaOnOverflow : Obligations.CounterReloadsFromTmaOnOverflow := by
  unfold Obligations.CounterReloadsFromTmaOnOverflow
  rintro n _ _ t rfl rfl
  refine ⟨fun hoff => ?_, fun hon => ?_⟩
  · rw [tickTimer_stopped n hoff]
    exact ⟨rfl, rfl, rfl⟩
  · rw [tickTimer_running n hon]
    exact ⟨rfl, countTimaTimes_within, countTimaTimes_past⟩

end Sys2Proof.Machine
end

section
/-! What a dot step does to STAT, the STAT line and the requests (60_exceptions.md R343, R346 to R349). -/

namespace Sys2Proof.Machine

/-! ### The mode events and the line end, field by field -/

/-- The mode events leave what the mirror and the edge detector read. -/
theorem modeEvents_stat (mem : Memory) (p : Ppu) :
    (modeEvents mem p).stat = p.stat ∧ (modeEvents mem p).lyc = p.lyc ∧ (modeEvents mem p).statReq = p.statReq
      ∧ (modeEvents mem p).statLinePrev = p.statLinePrev := by
  unfold modeEvents
  (repeat' split) <;> exact ⟨rfl, rfl, rfl, rfl⟩

theorem modeEvents_vblankReq (mem : Memory) (p : Ppu) :
    (modeEvents mem p).vblankReq = (p.vblankReq || decide (p.ly.toNat = 144 ∧ p.dots = 1)) := by
  unfold modeEvents
  by_cases hl : p.ly.toNat ≤ 143
  · have hn : ¬ (p.ly.toNat = 144 ∧ p.dots = 1) := by omega
    rw [if_pos hl, decide_eq_false hn, Bool.or_false]
    (repeat' split) <;> rfl
  · by_cases hv : p.ly.toNat = 144 ∧ p.dots = 1
    · rw [if_neg hl, if_pos hv, decide_eq_true hv, Bool.or_true]
    · rw [if_neg hl, if_neg hv, decide_eq_false hv, Bool.or_false]

/-- STAT's bits 7 to 2 at a line's end, the coincidence bit being that of the new LY (60_exceptions.md R347). -/
def comparedStat (p : Ppu) (ly : Byte) : Byte := (p.stat &&& 0xFB) ||| (if ly = p.lyc then 0x04 else 0)

theorem lineEnd_stat (p : Ppu) :
    (lineEnd p).stat = if p.dots = 456 then comparedStat p (lineEnd p).ly else p.stat := by
  unfold lineEnd
  by_cases hend : p.dots = 456
  · rw [if_pos hend, if_pos hend]
    split <;> rfl
  · rw [if_neg hend, if_neg hend]

/-- The line end leaves LYC, the requests and the STAT line. -/
theorem lineEnd_requests (p : Ppu) :
    (lineEnd p).lyc = p.lyc ∧ (lineEnd p).statReq = p.statReq ∧ (lineEnd p).statLinePrev = p.statLinePrev
      ∧ (lineEnd p).vblankReq = p.vblankReq := by
  unfold lineEnd
  (repeat' split) <;> exact ⟨rfl, rfl, rfl, rfl⟩

/-! ### The dot -/

/-- A dot leaves LYC. -/
theorem dotStep_lyc (s : State) : (dotStep s).ppu.lyc = s.ppu.lyc := by
  obtain ⟨hend, -, -, -⟩ := lineEnd_requests (beginDot s.mem s.ppu)
  obtain ⟨-, hbegin, -, -⟩ := modeEvents_stat s.mem { s.ppu with dots := s.ppu.dots + 1 }
  exact hend.trans hbegin

/-- STAT over a dot: the coincidence bit where LY changes, then the mode mirror (60_exceptions.md R346, R347). -/
theorem dotStep_stat (s : State) :
    (dotStep s).ppu.stat =
      ((if s.ppu.dots = 455 then comparedStat s.ppu (dotStep s).ppu.ly else s.ppu.stat) &&& 0xFC)
        ||| modeCode (dotStep s).ppu.mode := by
  obtain ⟨hstat, hlyc, -, -⟩ := modeEvents_stat s.mem { s.ppu with dots := s.ppu.dots + 1 }
  obtain ⟨-, hdots⟩ := modeEvents_position s.mem { s.ppu with dots := s.ppu.dots + 1 }
  show ((lineEnd (beginDot s.mem s.ppu)).stat &&& 0xFC) ||| _ = _
  rw [lineEnd_stat, comparedStat, beginDot, hstat, hlyc, hdots]
  simp only [Nat.reduceEqDiff]
  rfl

theorem dotStep_vblankReq (s : State) :
    (dotStep s).ppu.vblankReq = (s.ppu.vblankReq || decide (s.ppu.ly.toNat = 144 ∧ s.ppu.dots = 0)) := by
  obtain ⟨-, -, -, hend⟩ := lineEnd_requests (beginDot s.mem s.ppu)
  show (lineEnd (beginDot s.mem s.ppu)).vblankReq = _
  rw [hend, beginDot, modeEvents_vblankReq]
  simp only [Nat.add_eq_right]

/-- The edge detector over a dot (60_exceptions.md R349): the line as the dot leaves it, against the line before. -/
theorem dotStep_edge (s : State) :
    (dotStep s).ppu.statLinePrev = statLine (dotStep s).ppu
      ∧ (dotStep s).ppu.statReq = (s.ppu.statReq || (statLine (dotStep s).ppu && !s.ppu.statLinePrev)) := by
  obtain ⟨-, hreq, hprev, -⟩ := lineEnd_requests (beginDot s.mem s.ppu)
  obtain ⟨-, -, hreq', hprev'⟩ := modeEvents_stat s.mem { s.ppu with dots := s.ppu.dots + 1 }
  refine ⟨rfl, ?_⟩
  show ((lineEnd (beginDot s.mem s.ppu)).statReq
    || (statLine (dotStep s).ppu && !(lineEnd (beginDot s.mem s.ppu)).statLinePrev)) = _
  rw [hreq, hprev, beginDot, hreq', hprev']

/-! ### STAT's bits -/

/-- A field rewritten outside a mask leaves the mask's bits. -/
theorem or_and_of_disjoint {v keep new mask : Byte} (hkeep : keep &&& mask = mask) (hnew : new &&& mask = 0) :
    (v &&& keep ||| new) &&& mask = v &&& mask := by
  rw [BitVec.and_or_distrib_right, BitVec.and_assoc, hkeep, hnew]
  exact BitVec.or_zero

theorem mirror_high (v : Byte) (m : Mode) : (v &&& 0xFC ||| modeCode m) &&& 0xF8 = v &&& 0xF8 :=
  or_and_of_disjoint rfl (by cases m <;> rfl)

theorem mirror_coincidence (v : Byte) (m : Mode) : (v &&& 0xFC ||| modeCode m).getLsbD 2 = v.getLsbD 2 := by
  cases m <;> simp [modeCode]

theorem comparedStat_high (p : Ppu) (ly : Byte) : comparedStat p ly &&& 0xF8 = p.stat &&& 0xF8 :=
  or_and_of_disjoint rfl (by split <;> rfl)

theorem comparedStat_coincidence (p : Ppu) (ly : Byte) : (comparedStat p ly).getLsbD 2 = decide (ly = p.lyc) := by
  by_cases h : ly = p.lyc <;> simp [comparedStat, h]

/-- Settles O27: STAT bit by bit from `dotStep_stat`, the line and its edge from `dotStep_edge`. -/
theorem dotStepMirrorsTheModeAndDetectsTheEdge : Obligations.DotStepMirrorsTheModeAndDetectsTheEdge := by
  unfold Obligations.DotStepMirrorsTheModeAndDetectsTheEdge
  rintro s _ _ line rfl rfl hline
  obtain rfl : line = statLine (dotStep s).ppu := hline
  obtain ⟨hprev, hreq⟩ := dotStep_edge s
  refine ⟨dotStep_mirror s, ?_, ?_, hprev, hreq, ?_⟩
  · rw [dotStep_stat, mirror_high]
    split
    · exact comparedStat_high _ _
    · rfl
  · rw [dotStep_stat, mirror_coincidence, dotStep_lyc]
    split
    · exact comparedStat_coincidence _ _
    · rfl
  · have hly : s.ppu.ly = 144 ↔ s.ppu.ly.toNat = 144 := BitVec.toNat_inj.symm
    rw [dotStep_vblankReq]
    simp only [hly]

end Sys2Proof.Machine
end

section
/-! The sprite scan (60_exceptions.md R352): which sprites it takes, and the order it leaves them in (decision D22). -/

namespace Sys2Proof.Machine

/-! ### The first ten -/

/-- What the first `k` of a filtered range hold: the numbers that pass and have fewer than `k` passing ones below them. -/
theorem mem_take_filter_range (q : Nat → Bool) (k n i : Nat) :
    i ∈ ((List.range n).filter q).take k ↔ i < n ∧ q i = true ∧ ((List.range i).filter q).length < k := by
  induction n with
  | zero => simp
  | succ n ih =>
    have hlast : i ∈ (List.filter q [n]).take (k - ((List.range n).filter q).length) ↔
        i = n ∧ q i = true ∧ ((List.range i).filter q).length < k := by
      cases hq : q n with
      | false => grind
      | true =>
        have hone (m : Nat) : i ∈ [n].take m ↔ i = n ∧ 0 < m := by cases m <;> simp
        rw [List.filter_cons_of_pos hq, List.filter_nil, hone, Nat.sub_pos_iff_lt]
        exact and_congr_right fun hi => by rw [hi, hq, eq_self, true_and]
    rw [List.range_succ, List.filter_append, List.take_append, List.mem_append, ih, hlast, ← or_and_right,
      Nat.lt_succ_iff_lt_or_eq]

theorem onScanline_eq_spriteCovers (p : Ppu) (e : Sprite) : onScanline p e = spriteCovers p e := by
  have hx : e.x ≠ 0 ↔ e.x.toNat ≠ 0 := not_congr BitVec.toNat_inj.symm
  simp only [onScanline, spriteCovers, spriteHeight, hx]
  rfl

/-- The sprites the scan takes, by their index. -/
theorem selectedSprites_eq (mem : Memory) (p : Ppu) :
    selectedSprites mem p =
      (((List.range 40).filter fun i => spriteCovers p (oamEntry mem i)).take 10).map (oamEntry mem) := by
  have hcovers : onScanline p ∘ oamEntry mem = fun i => spriteCovers p (oamEntry mem i) :=
    funext fun i => onScanline_eq_spriteCovers p (oamEntry mem i)
  rw [selectedSprites, List.filter_map, List.map_take, hcovers]

theorem mem_selectedSprites (mem : Memory) (p : Ppu) (e : Sprite) :
    e ∈ selectedSprites mem p ↔
      ∃ i, i < 40 ∧ e = oamEntry mem i ∧ spriteCovers p e = true
        ∧ ((List.range i).filter (fun j => spriteCovers p (oamEntry mem j))).length < 10 := by
  rw [selectedSprites_eq, List.mem_map]
  constructor
  · rintro ⟨i, hi, rfl⟩
    obtain ⟨hlt, hcovers, hfew⟩ := (mem_take_filter_range _ _ _ _).1 hi
    exact ⟨i, hlt, rfl, hcovers, hfew⟩
  · rintro ⟨i, hlt, rfl, hcovers, hfew⟩
    exact ⟨i, (mem_take_filter_range _ _ _ _).2 ⟨hlt, hcovers, hfew⟩, rfl⟩

/-- No two of them have the same index. -/
theorem selectedSprites_idx_ne (mem : Memory) (p : Ppu) :
    (selectedSprites mem p).Pairwise fun e o => e.idx ≠ o.idx := by
  rw [selectedSprites_eq, List.pairwise_map]
  exact (List.nodup_range.filter _).sublist (List.take_sublist _ _)

/-! ### The order -/

/-- Draw order, as a relation (decision D22). -/
def DrawnBefore (e o : Sprite) : Prop := o.x.toNat < e.x.toNat ∨ (e.x = o.x ∧ o.idx < e.idx)

theorem drawnBefore_iff (e o : Sprite) : drawnBefore e o = true ↔ DrawnBefore e o := by
  simp [drawnBefore, DrawnBefore]

theorem DrawnBefore.trans {a b c : Sprite} (h : DrawnBefore a b) (k : DrawnBefore b c) : DrawnBefore a c := by
  unfold DrawnBefore at *
  rw [← BitVec.toNat_inj] at *
  omega

/-- Of two sprites with different indices one is drawn before the other. -/
theorem DrawnBefore.of_not {e o : Sprite} (hne : e.idx ≠ o.idx) (h : ¬ DrawnBefore e o) : DrawnBefore o e := by
  unfold DrawnBefore at *
  rw [← BitVec.toNat_inj] at *
  omega

theorem placeSprite_perm (e : Sprite) (l : List Sprite) : (placeSprite e l).Perm (e :: l) := by
  induction l with
  | nil => exact .refl _
  | cons o rest ih =>
    rw [placeSprite]
    split
    · exact .refl _
    · exact (ih.cons o).trans (.swap e o rest)

theorem inDrawOrder_perm (l : List Sprite) : (inDrawOrder l).Perm l := by
  induction l with
  | nil => exact .refl _
  | cons e rest ih => exact (placeSprite_perm e _).trans (ih.cons e)

/-- Placing a sprite with an index of its own keeps the order. -/
theorem placeSprite_pairwise {e : Sprite} {l : List Sprite} (hne : ∀ o ∈ l, e.idx ≠ o.idx) (h : l.Pairwise DrawnBefore) :
    (placeSprite e l).Pairwise DrawnBefore := by
  induction l with
  | nil => exact List.pairwise_singleton _ _
  | cons o rest ih =>
    obtain ⟨hfirst, hrest⟩ := List.pairwise_cons.1 h
    rw [placeSprite]
    split
    · rename_i hbefore
      have heo := (drawnBefore_iff e o).1 hbefore
      refine List.pairwise_cons.2 ⟨fun a ha => ?_, h⟩
      obtain rfl | ha := List.mem_cons.1 ha
      · exact heo
      · exact heo.trans (hfirst a ha)
    · rename_i hafter
      have hoe : DrawnBefore o e := .of_not (hne o List.mem_cons_self) (mt (drawnBefore_iff e o).2 hafter)
      refine List.pairwise_cons.2 ⟨fun a ha => ?_, ih (fun a ha => hne a (List.mem_cons_of_mem o ha)) hrest⟩
      obtain rfl | ha := List.mem_cons.1 ((placeSprite_perm e rest).mem_iff.1 ha)
      · exact hoe
      · exact hfirst a ha

theorem inDrawOrder_pairwise {l : List Sprite} (hne : l.Pairwise fun e o => e.idx ≠ o.idx) :
    (inDrawOrder l).Pairwise DrawnBefore := by
  induction l with
  | nil => exact .nil
  | cons e rest ih =>
    obtain ⟨hfirst, hrest⟩ := List.pairwise_cons.1 hne
    exact placeSprite_pairwise (fun o ho => hfirst o ((inDrawOrder_perm rest).mem_iff.1 ho)) (ih hrest)

/-- Settles O29: the scan puts the sprites it takes in draw order; a visible line's first dot runs it. -/
theorem spriteScanKeepsTheFirstTenInDrawOrder : Obligations.SpriteScanKeepsTheFirstTenInDrawOrder := by
  unfold Obligations.SpriteScanKeepsTheFirstTenInDrawOrder
  refine ⟨fun mem p => ⟨rfl, spriteScan_length mem p, inDrawOrder_pairwise (selectedSprites_idx_ne mem p), fun e => ?_⟩,
    fun s hl hd => ?_⟩
  · exact (inDrawOrder_perm _).mem_iff.trans (mem_selectedSprites mem p e)
  · rw [dotStep_sprites, if_pos ⟨hl, hd⟩]

end Sys2Proof.Machine
end

section
/-! The scanline draw, pixel by pixel (60_exceptions.md R359 to R367): the model's colour indices and shades as the numbers the
statement is written in, one sprite's pixels, and the last sprite that shows. -/

namespace Sys2Proof.Machine

/-! ### Tiles and palettes as numbers -/

theorem paletteShade_toNat (palette : Byte) (ci : Shade) : (paletteShade palette ci).toNat = shadeOf palette ci.toNat := by
  rw [paletteShade, shadeOf, BitVec.extractLsb'_toNat, BitVec.toNat_ushiftRight, Nat.shiftRight_zero,
    Nat.shiftRight_eq_div_pow, Nat.pow_mul]

theorem planePixel_toNat (low high : Byte) (b : Nat) :
    (planePixel low high b).toNat = 2 * (high.getLsbD b).toNat + (low.getLsbD b).toNat := by
  unfold planePixel bit
  cases high.getLsbD b <;> cases low.getLsbD b <;> rfl

/-- A signed tile index counts from 0x9000 (60_exceptions.md R360). -/
theorem tileBase_eq (lcdc t : Byte) : tileBase lcdc t = tileAddress lcdc t.toNat := by
  have ht := t.isLt
  unfold tileBase tileAddress bit
  split
  · rfl
  · rw [BitVec.toInt_eq_toNat_cond]
    split <;> split <;> omega

theorem tilePixel_toNat (mem : Memory) (p : Ppu) (map col row : Nat) :
    (tilePixel mem p map col row).toNat = mapColour mem p.lcdc map col row := by
  rw [tilePixel, mapColour, planePixel_toNat, tileBase_eq]

/-! ### The background and the window -/

theorem windowCovers_eq_inWindow (p : Ppu) (x : Nat) : windowCovers p x = inWindow p x := rfl

theorem bgColour_toNat (mem : Memory) (p : Ppu) (x : Nat) : (bgColour mem p x).toNat = backdropColour mem p x := by
  unfold bgColour backdropColour bit
  rw [windowCovers_eq_inWindow]
  cases p.lcdc.getLsbD 0 with
  | false => rfl
  | true =>
    cases inWindow p x with
    | false => exact tilePixel_toNat mem p _ _ _
    | true => exact tilePixel_toNat mem p _ _ _

/-- The window reaches a column exactly when it reaches the last one after it. -/
theorem inWindow_mono {p : Ppu} {x y : Nat} (hxy : x ≤ y) (h : inWindow p x = true) : inWindow p y = true := by
  simp only [inWindow, Bool.and_eq_true, decide_eq_true_eq] at h ⊢
  obtain ⟨henabled, hcolumn⟩ := h
  exact ⟨henabled, by omega⟩

/-- A line has a window pixel exactly when its last column is one (60_exceptions.md R362). -/
theorem any_windowCovers (p : Ppu) : (List.range 160).any (windowCovers p) = inWindow p 159 := by
  rw [Bool.eq_iff_iff, List.any_eq_true]
  constructor
  · rintro ⟨x, hx, hcovers⟩
    exact inWindow_mono (Nat.le_of_lt_succ (List.mem_range.1 hx)) hcovers
  · exact fun h => ⟨159, by decide, h⟩

theorem rowOf_getElem? (f : Nat → Shade) {x : Nat} (h : x < 160) : (rowOf f)[x]? = some (f x) := by
  simp [rowOf, h]

/-! ### One sprite -/

/-- The low bit of a tile index is ignored for tall sprites (60_exceptions.md R366). -/
theorem and_even_toNat (v : Byte) : (v &&& 0xFE).toNat = v.toNat / 2 * 2 := by
  revert v
  decide

/-- The colour index of the sprite's pixel at column `x`. -/
theorem spriteColour_toNat (mem : Memory) (p : Ppu) (e : Sprite) (x : Nat) :
    (spriteColour mem p e (x + 8 - e.x.toNat)).toNat = spriteIndexAt mem p e x := by
  have htile : (if bit p.lcdc 2 then e.tile &&& 0xFE else e.tile).toNat =
      if p.lcdc.getLsbD 2 then e.tile.toNat / 2 * 2 else e.tile.toNat := by
    unfold bit
    split
    · exact and_even_toNat e.tile
    · rfl
  unfold spriteColour spriteIndexAt
  dsimp only
  rw [planePixel_toNat, htile]
  rfl

/-- Pixel `k` of the sprite, at column `x`, is drawn over the line's background (60_exceptions.md R366). -/
@[reducible] def pixelShows (mem : Memory) (p : Ppu) (e : Sprite) (k x : Nat) : Prop :=
  spriteColour mem p e k ≠ 0 ∧ ¬ (bit e.attr 7 = true ∧ p.bgIdx[x]? ≠ some 0)

/-- The shade the sprite gives column `x` (60_exceptions.md R364, R366). -/
def spriteShade (mem : Memory) (p : Ppu) (x : Nat) (e : Sprite) : Shade :=
  paletteShade (spritePalette p e) (spriteColour mem p e (x + 8 - e.x.toNat))

/-- A pixel of a sprite leaves every other column of the row. -/
theorem drawSpritePixel_other (mem : Memory) (p : Ppu) (e : Sprite) (row : Row) {k x : Nat} (h : e.x.toNat + k ≠ x + 8) :
    (drawSpritePixel mem p e row k)[x]? = row[x]? := by
  unfold drawSpritePixel
  dsimp only
  split
  · rfl
  · rename_i hclip
    have hne : e.x.toNat + k - 8 ≠ x := by omega
    split
    · rfl
    · split
      · rfl
      · exact Vector.getElem?_setIfInBounds_ne hne

/-- What a pixel of a sprite does at its own column. -/
theorem drawSpritePixel_same (mem : Memory) (p : Ppu) (e : Sprite) (row : Row) {k x : Nat} (hx : x < 160)
    (h : e.x.toNat + k = x + 8) :
    (drawSpritePixel mem p e row k)[x]? =
      if pixelShows mem p e k x then some (spriteShade mem p x e) else row[x]? := by
  have hcolumn : e.x.toNat + k - 8 = x := by omega
  have hpixel : x + 8 - e.x.toNat = k := by omega
  have hclip : ¬ (e.x.toNat + k < 8 ∨ 159 < x) := by omega
  unfold drawSpritePixel pixelShows spriteShade
  dsimp only
  rw [hcolumn, hpixel, if_neg hclip]
  by_cases hclear : spriteColour mem p e k = 0
  · rw [if_pos hclear, if_neg (fun hshows => hshows.1 hclear)]
  · rw [if_neg hclear]
    by_cases hhidden : bit e.attr 7 = true ∧ p.bgIdx[x]? ≠ some 0
    · rw [if_pos hhidden, if_neg (fun hshows => hshows.2 hhidden)]
    · rw [if_neg hhidden, if_pos ⟨hclear, hhidden⟩, Vector.getElem?_setIfInBounds_self_of_lt hx]

/-- What the first `n` pixels of a sprite do to a column: the one of them that is at this column decides. -/
theorem drawSpritePixels_getElem? (mem : Memory) (p : Ppu) (e : Sprite) (row : Row) {x : Nat} (hx : x < 160) (n : Nat) :
    ((List.range n).foldl (drawSpritePixel mem p e) row)[x]? =
      if e.x.toNat ≤ x + 8 ∧ x + 8 < e.x.toNat + n ∧ pixelShows mem p e (x + 8 - e.x.toNat) x
      then some (spriteShade mem p x e) else row[x]? := by
  induction n with
  | zero => rw [if_neg (by omega)]; rfl
  | succ n ih =>
    rw [List.range_succ, List.foldl_append, List.foldl_cons, List.foldl_nil]
    by_cases hn : e.x.toNat + n = x + 8
    · have hpixel : x + 8 - e.x.toNat = n := by omega
      have hbefore : ¬ (e.x.toNat ≤ x + 8 ∧ x + 8 < e.x.toNat + n ∧ pixelShows mem p e (x + 8 - e.x.toNat) x) := by omega
      rw [drawSpritePixel_same mem p e _ hx hn, ih, if_neg hbefore, hpixel]
      exact if_congr ⟨fun h => ⟨by omega, by omega, h⟩, fun h => h.2.2⟩ rfl rfl
    · rw [drawSpritePixel_other mem p e _ hn, ih]
      exact if_congr (and_congr_right fun _ => and_congr_left fun _ => by omega) rfl rfl

/-- A sprite of the buffer draws a column exactly where the statement says it shows. -/
theorem drawSprite_getElem? {mem : Memory} {p : Ppu} {x : Nat} {colour : Shade} (hx : x < 160)
    (hcolour : p.bgIdx[x]? = some colour) (row : Row) (e : Sprite) :
    (drawSprite mem p row e)[x]? =
      if spriteShows mem p colour.toNat x e then some (spriteShade mem p x e) else row[x]? := by
  have hheight : spriteHeight p = if p.lcdc.getLsbD 2 then 16 else 8 := rfl
  have hzero (c : Shade) : c ≠ 0 ↔ c.toNat ≠ 0 := not_congr BitVec.toNat_inj.symm
  have hpixel : pixelShows mem p e (x + 8 - e.x.toNat) x ↔
      spriteIndexAt mem p e x ≠ 0 ∧ ¬ (e.attr.getLsbD 7 = true ∧ colour.toNat ≠ 0) := by
    unfold pixelShows bit
    rw [hcolour, hzero, spriteColour_toNat, ne_eq (some colour), Option.some_inj, ← ne_eq, hzero]
  have hshows : spriteShows mem p colour.toNat x e = true ↔
      (e.y.toNat ≤ p.ly.toNat + 16 ∧ p.ly.toNat + 16 < e.y.toNat + spriteHeight p)
        ∧ e.x.toNat ≤ x + 8 ∧ x + 8 < e.x.toNat + 8 ∧ pixelShows mem p e (x + 8 - e.x.toNat) x := by
    rw [hpixel, hheight]
    simp [spriteShows, and_assoc, imp_iff_not_or]
  unfold drawSprite spriteRow
  by_cases hrows : p.ly.toNat + 16 < e.y.toNat ∨ spriteHeight p ≤ p.ly.toNat + 16 - e.y.toNat
  · rw [if_pos hrows, if_neg (mt hshows.1 fun h => by omega)]
  · rw [if_neg hrows, drawSpritePixels_getElem? mem p e row hx 8]
    exact if_congr (by rw [hshows]; exact (and_iff_right (by omega)).symm) rfl rfl

/-! ### The sprites of a line -/

/-- Of the sprites drawn in order the last one that shows decides a column (60_exceptions.md R359, R366). -/
theorem drawSprites_getElem? {mem : Memory} {p : Ppu} {x : Nat} {colour : Shade} (hx : x < 160)
    (hcolour : p.bgIdx[x]? = some colour) (row : Row) (l : List Sprite) :
    (l.foldl (drawSprite mem p) row)[x]? =
      ((l.reverse.find? (spriteShows mem p colour.toNat x)).map (spriteShade mem p x)).or row[x]? := by
  induction l using List.reverseRecOn with
  | nil => rfl
  | append_singleton l e ih =>
    rw [List.foldl_append, List.foldl_cons, List.foldl_nil, drawSprite_getElem? hx hcolour, List.reverse_append,
      List.reverse_singleton, List.singleton_append, List.find?_cons, ih]
    cases spriteShows mem p colour.toNat x e <;> rfl

theorem spriteShade_toNat (mem : Memory) (p : Ppu) (x : Nat) (e : Sprite) :
    (spriteShade mem p x e).toNat = shadeOf (if e.attr.getLsbD 4 then p.obp1 else p.obp0) (spriteIndexAt mem p e x) := by
  rw [spriteShade, paletteShade_toNat, spriteColour_toNat]; rfl

/-- The row without sprites (60_exceptions.md R359, R364). -/
def plainRow (mem : Memory) (p : Ppu) : Row := (rowOf (bgColour mem p)).map (paletteShade p.bgp)

theorem plainRow_getElem? (mem : Memory) (p : Ppu) {x : Nat} (hx : x < 160) :
    (plainRow mem p)[x]? = some (paletteShade p.bgp (bgColour mem p x)) := by
  rw [plainRow, Vector.getElem?_map, rowOf_getElem? _ hx]; rfl

theorem plainRow_shade_toNat (mem : Memory) (p : Ppu) (x : Nat) :
    (paletteShade p.bgp (bgColour mem p x)).toNat = shadeOf p.bgp (backdropColour mem p x) := by
  rw [paletteShade_toNat, bgColour_toNat]

/-- With sprites on, a column of the finished row is that of the last sprite that shows, else the plain row's. -/
theorem finishedRow_getElem?_of_sprites (mem : Memory) (p : Ppu) {x : Nat} (hx : x < 160) (h : p.lcdc.getLsbD 1 = true) :
    (finishedRow mem (drawBackground mem p))[x]? =
      ((p.sprites.reverse.find? (spriteShows mem p (backdropColour mem p x) x)).map (spriteShade mem p x)).or
        (some (paletteShade p.bgp (bgColour mem p x))) := by
  have hcolour : (drawBackground mem p).bgIdx[x]? = some (bgColour mem p x) := rowOf_getElem? _ hx
  have hlast := drawSprites_getElem? (mem := mem) hx hcolour (plainRow mem p) p.sprites
  rw [bgColour_toNat, plainRow_getElem? mem p hx] at hlast
  exact (congrArg (·[x]?) (if_pos h)).trans hlast

/-- With sprites off it is the plain row's (60_exceptions.md R359). -/
theorem finishedRow_getElem?_of_no_sprites (mem : Memory) (p : Ppu) {x : Nat} (hx : x < 160) (h : ¬ p.lcdc.getLsbD 1 = true) :
    (finishedRow mem (drawBackground mem p))[x]? = some (paletteShade p.bgp (bgColour mem p x)) :=
  (congrArg (·[x]?) (if_neg h)).trans (plainRow_getElem? mem p hx)

/-- Every column of the finished row is the shade the statement gives it. -/
theorem finishedRow_getElem? (mem : Memory) (p : Ppu) {x : Nat} (hx : x < 160) :
    ∃ shade, (finishedRow mem (drawBackground mem p))[x]? = some shade ∧ shade.toNat = finishedShade mem p x := by
  unfold finishedShade
  by_cases hsprites : p.lcdc.getLsbD 1 = true
  · have hrow := finishedRow_getElem?_of_sprites mem p hx hsprites
    rw [if_pos hsprites]
    cases hlast : p.sprites.reverse.find? (spriteShows mem p (backdropColour mem p x) x) with
    | none =>
      rw [hlast] at hrow
      exact ⟨_, hrow, plainRow_shade_toNat mem p x⟩
    | some e =>
      rw [hlast] at hrow
      exact ⟨_, hrow, spriteShade_toNat mem p x e⟩
  · rw [if_neg hsprites]
    exact ⟨_, finishedRow_getElem?_of_no_sprites mem p hx hsprites, plainRow_shade_toNat mem p x⟩

/-! ### The whole draw -/

/-- The draw changes the frame buffer, `bg_idx` and the window's line counter (60_exceptions.md R359, R362). -/
theorem drawScanline_eq (mem : Memory) (p : Ppu) :
    drawScanline mem p =
      { p with
        fb := p.fb.setIfInBounds p.ly.toNat (finishedRow mem (drawBackground mem p))
        bgIdx := rowOf (bgColour mem p)
        windowLine := p.windowLine + (if inWindow p 159 then 1 else 0) } := by
  have hcount : (drawBackground mem p).windowLine = p.windowLine + (if inWindow p 159 then 1 else 0) := by
    rw [drawBackground, any_windowCovers]
    split <;> rfl
  rw [← hcount]; rfl

/-- The dot that draws (60_exceptions.md R341). -/
theorem dotStep_fb_of_draw {s : State} (hl : s.ppu.ly.toNat ≤ 143) (hd : s.ppu.dots = 80) :
    (dotStep s).ppu.fb = (drawScanline s.mem s.ppu).fb := by
  show (endDot (beginDot s.mem s.ppu)).fb = _
  rw [endDot_fb, beginDot, modeEvents, hd, if_pos hl]
  rfl

/-- Settles O30: row LY is the finished row, of which `finishedRow_getElem?` says each column. -/
theorem scanlineDrawsEveryPixel : Obligations.ScanlineDrawsEveryPixel := by
  unfold Obligations.ScanlineDrawsEveryPixel
  refine ⟨fun mem p hl => ⟨fun x hx => ?_, fun y hy => ?_, ?_⟩, fun s => dotStep_fb_of_draw⟩
  · obtain ⟨shade, hpixel, hshade⟩ := finishedRow_getElem? mem p hx
    refine ⟨_, shade, ?_, hpixel, hshade⟩
    rw [drawScanline_eq]
    exact Vector.getElem?_setIfInBounds_self_of_lt (by omega)
  · rw [drawScanline_eq]
    exact Vector.getElem?_setIfInBounds_ne (Ne.symm hy)
  · rw [drawScanline_eq]

end Sys2Proof.Machine
end
